-- ==== Sys2Proof/Word.lean ====
section
/-! DEFINITION. The word types of the block and the plainest arithmetic on them (00 R11, R13; 20 R58). -/

namespace Sys2Proof

/-- `DATA_BITS` = 8: what every access moves (00 R11, 20 R58). -/
abbrev Byte := BitVec 8

/-- `ADDR_BITS` = 16: a bus or video address (00 R11, 20 R48). -/
abbrev Addr := BitVec 16

/-- The address lies in `lo..hi`, both included: `addr_lo ≤ a ≤ addr_hi` of 30 R82. -/
def within (lo hi : Nat) (a : Addr) : Bool := decide (lo ≤ a.toNat) && decide (a.toNat ≤ hi)

end Sys2Proof
end

