-- ==== Sys2Proof/Config.lean ====
section
/-! DEFINITION. The implementation parameters of 00 R11: those the spec lets vary as a structure of arguments, the
source's sizes as constants; and the free values: the draws that the spec leaves to the model (92 D9, D25). -/

namespace Sys2Proof

/-- The mapper variants of `SUPPORTED_MAPPERS` (92 D29), in the order of their ids. -/
inductive Variant where
  /-- id 0 -/
  | nrom
  /-- id 1 -/
  | mmc1
  /-- id 2 -/
  | uxrom
  /-- id 3 -/
  | cnrom
  /-- id 4 -/
  | mmc3
  /-- id 5, the representative chip (00 R3) -/
  | mmc5
  /-- id 7 -/
  | axrom
  /-- id 9 -/
  | mmc2
  /-- id 10 -/
  | mmc4
  /-- id 11 -/
  | colorDreams
  /-- id 13 -/
  | cprom
  /-- id 15 -/
  | m15
  /-- id 66 -/
  | gxrom
  /-- id 71 -/
  | camerica71
deriving DecidableEq, Repr

/-- `ERROR_POLICY` (60 R264, R265). -/
inductive ErrorPolicy where
  /-- an access error is recorded in `fault` and ends the run -/
  | strict
  /-- an access error is the result and nothing else changes -/
  | lenient
deriving DecidableEq, Repr

/-- The place of a variant in a table with one entry for each. -/
def Variant.index : Variant → Fin 14
  | .nrom => 0
  | .mmc1 => 1
  | .uxrom => 2
  | .cnrom => 3
  | .mmc3 => 4
  | .mmc5 => 5
  | .axrom => 6
  | .mmc2 => 7
  | .mmc4 => 8
  | .colorDreams => 9
  | .cprom => 10
  | .m15 => 11
  | .gxrom => 12
  | .camerica71 => 13

/-- The parameters of 00 R11 that the spec gives the treatment `parameter` (93 U14 to U19): the model takes their values as
an argument. They stand in `State.params` (log 7). -/
structure Params where
  /-- `CART_BASE`: the first address of the cartridge range (92 D2) -/
  cartBase : Nat
  /-- `ERROR_POLICY` (92 D7; log 8) -/
  policy : ErrorPolicy
  /-- `VISIBLE_FIRST` (92 D21) -/
  visibleFirst : Int
  /-- `VISIBLE_LAST` (92 D21) -/
  visibleLast : Int
  /-- `PRERENDER_SCANLINE` (92 D35; -1 for a caller that numbers the line so, 93 G25) -/
  prerenderScanline : Int
  /-- `MMC3_IRQ_CYCLE` (92 D35) -/
  mmc3IrqCycle : Nat
  /-- `PRG_RAM_SIZE(v)` of each variant, by `Variant.index` (92 D23) -/
  prgRamSizes : Vector Nat 14
  /-- `SUPPORTED_MAPPERS`: mapper id and variant (92 D29) -/
  supportedMappers : List (Byte × Variant)
deriving DecidableEq, Repr

/-- The values that 00 R11 gives the parameters. -/
def Params.standard : Params where
  cartBase := 0x4020
  policy := .strict
  visibleFirst := 0
  visibleLast := 239
  prerenderScanline := 261
  mmc3IrqCycle := 260
  prgRamSizes := #v[8192, 8192, 8192, 8192, 8192, 65536, 8192, 8192, 8192, 8192, 8192, 8192, 8192, 8192]
  supportedMappers :=
    [(0, .nrom), (1, .mmc1), (2, .uxrom), (3, .cnrom), (4, .mmc3), (5, .mmc5), (7, .axrom), (9, .mmc2), (10, .mmc4),
      (11, .colorDreams), (13, .cprom), (15, .m15), (66, .gxrom), (71, .camerica71)]

/-- `PRG_RAM_SIZE(v)`. -/
def Params.prgRamSize (p : Params) (v : Variant) : Nat := p.prgRamSizes[v.index]

/-- `SUPPORTED_MAPPERS[id]`, none for an id outside the table (40 R99, R106). -/
def Params.variantOf (p : Params) (id : Byte) : Option Variant := p.supportedMappers.lookup id

/-- Parameters under which every rule has a meaning: no program RAM is empty, since `bankOffset` takes the remainder by its
length (20 R53, 42 R137, R139). -/
def Params.ok (p : Params) : Bool := p.prgRamSizes.toList.all fun n => decide (1 ≤ n)

namespace Config

/-- `BUS_STORE_SIZE` (00 R11). -/
def storeSize : Nat := 65536

/-- `PRG_BANK_UNIT`: bytes per header program bank (00 R11). -/
def prgBankUnit : Nat := 16384

/-- `CHR_BANK_UNIT`: bytes per header character bank (00 R11). -/
def chrBankUnit : Nat := 8192

/-- `HEADER_SIZE` (00 R11). -/
def headerSize : Nat := 16

/-- `TRAINER_SIZE` (00 R11). -/
def trainerSize : Nat := 512

/-- `EXRAM_SIZE` (00 R11). -/
def exRamSize : Nat := 1024

/-- FREE VALUE (log 5): the draw number `index` of the group `tag`. The spec lets a draw be any value, chosen
independently for each element (10, opening; 92 D9, D25); nothing in Lean knows a value of it. -/
opaque freeWord : Nat → Nat → BitVec 16

/-- A draw of a byte. -/
def freeByte (tag index : Nat) : Byte := (freeWord tag index).setWidth 8

/-- A draw of one bit. -/
def freeBit (tag index : Nat) : Bool := (freeWord tag index).getLsbD 0

end Config

end Sys2Proof
end

