-- ==== Sys2Proof/Syntax.lean ====
section
/-! DEFINITION. The transaction formats of 30 R72 and R73, the request in which a caller hands one over, and `Instr`:
one constructor per row of spec/opcode_table.json (30 R82 to R89). -/

namespace Sys2Proof

/-- The ports of the block (60 R277). -/
inductive Port where
  /-- the processor's port -/
  | cpu
  /-- the video pipeline's port -/
  | video
  /-- the host's port -/
  | host
  /-- the leg between the bus router and the mapper (30 R73), not a port of the block -/
  | mapper
deriving DecidableEq, Repr

/-- The transaction formats: the thirteen of 30 R72, and the mapper's CPU-side `readByte`/`writeByte` that the decode
tables write `CPU_READ`/`CPU_WRITE` (30 R73). -/
inductive Format where
  | busRead
  | busWrite
  | vidRead
  | vidWrite
  | videoCycle
  | configureMirror
  | resetConfiguration
  | wipe
  | load
  | unload
  | saveLoad
  | saveDump
  | name
  | cpuRead
  | cpuWrite
deriving DecidableEq, Repr

/-- The port a format belongs to (30 R72, 60 R277). -/
def Format.port : Format → Port
  | .busRead => .cpu
  | .busWrite => .cpu
  | .vidRead => .video
  | .vidWrite => .video
  | .videoCycle => .video
  | .configureMirror => .host
  | .resetConfiguration => .host
  | .wipe => .host
  | .load => .host
  | .unload => .host
  | .saveLoad => .host
  | .saveDump => .host
  | .name => .host
  | .cpuRead => .mapper
  | .cpuWrite => .mapper

/-- One transaction as a caller issues it: which call it is, and its operand fields as bytes, in the order of 30 R72,
each field least significant byte first. DESIGN CHOICE: the spec gives fields and widths, no byte form; log 1. -/
structure Request where
  format : Format
  operands : List Byte
deriving DecidableEq, Repr

/-- The rows of spec/opcode_table.json. An address operand `a` is the whole 16-bit address; a row decoded at one
address has none; `i` is the register index that the low address bits give. -/
inductive Instr where
  /-- `BUS.R.LOCAL`, BUS_READ, R120 -/
  | busRLocal (a : Addr)
  /-- `BUS.W.LOCAL`, BUS_WRITE, R121 -/
  | busWLocal (a : Addr) (d : Byte)
  /-- `BUS.R.CART`, BUS_READ, R122 -/
  | busRCart (a : Addr)
  /-- `BUS.W.CART`, BUS_WRITE, R123 -/
  | busWCart (a : Addr) (d : Byte)
  /-- `MIRROR`, CONFIGURE_MIRROR, R127 -/
  | mirror (base : Addr) (regionSize extent : BitVec 17)
  /-- `RESETCFG`, RESET_CONFIGURATION, R128 -/
  | resetcfg
  /-- `WIPE`, WIPE, R129 -/
  | wipe
  /-- `LOAD`, LOAD, R99 -/
  | load (image : List Byte)
  /-- `UNLOAD`, UNLOAD, R111 -/
  | unload
  /-- `SAVELOAD`, SAVE_LOAD, R113 -/
  | saveload (bytes : List Byte)
  /-- `SAVEDUMP`, SAVE_DUMP, R114 -/
  | savedump
  /-- `NAME`, NAME, R145 -/
  | name
  /-- `GEN.W.UNMAPPED`, CPU_WRITE, R141 -/
  | genWUnmapped (a : Addr) (d : Byte)
  /-- `GEN.R.UNMAPPED`, CPU_READ, R142 -/
  | genRUnmapped (a : Addr)
  /-- `GEN.R.PRGRAM6000`, CPU_READ, R143 -/
  | genRPrgram6000 (a : Addr)
  /-- `GEN.W.PRGRAM6000`, CPU_WRITE, R144 -/
  | genWPrgram6000 (a : Addr) (d : Byte)
  /-- `GEN.VR.CHR8FIXED`, VID_READ, R146 -/
  | genVrChr8fixed (a : Addr)
  /-- `GEN.VW.CHR8FIXED`, VID_WRITE, R148 -/
  | genVwChr8fixed (a : Addr) (d : Byte)
  /-- `GEN.VC.NOP`, VIDEO_CYCLE, R149 -/
  | genVcNop (scanline cycle : BitVec 16) (showBackground showSprites : Bool)
  /-- `MMC5.W.PRGMODE`, CPU_WRITE, R151 -/
  | mmc5WPrgmode (d : Byte)
  /-- `MMC5.W.CHRMODE`, CPU_WRITE, R152 -/
  | mmc5WChrmode (d : Byte)
  /-- `MMC5.W.PROTECT1`, CPU_WRITE, R153 -/
  | mmc5WProtect1 (d : Byte)
  /-- `MMC5.W.PROTECT2`, CPU_WRITE, R154 -/
  | mmc5WProtect2 (d : Byte)
  /-- `MMC5.W.EXRAMMODE`, CPU_WRITE, R156 -/
  | mmc5WExrammode (d : Byte)
  /-- `MMC5.W.NTMAP`, CPU_WRITE, R157 -/
  | mmc5WNtmap (d : Byte)
  /-- `MMC5.W.FILLTILE`, CPU_WRITE, R158 -/
  | mmc5WFilltile (d : Byte)
  /-- `MMC5.W.FILLATTR`, CPU_WRITE, R159 -/
  | mmc5WFillattr (d : Byte)
  /-- `MMC5.W.PRGRAMBANK`, CPU_WRITE, R160 -/
  | mmc5WPrgrambank (d : Byte)
  /-- `MMC5.W.PRGBANK0`, CPU_WRITE, R161 -/
  | mmc5WPrgbank0 (d : Byte)
  /-- `MMC5.W.PRGBANK1`, CPU_WRITE, R162 -/
  | mmc5WPrgbank1 (d : Byte)
  /-- `MMC5.W.PRGBANK2`, CPU_WRITE, R163 -/
  | mmc5WPrgbank2 (d : Byte)
  /-- `MMC5.W.PRGBANK3`, CPU_WRITE, R164 -/
  | mmc5WPrgbank3 (d : Byte)
  /-- `MMC5.W.CHRUPPER`, CPU_WRITE, R167 -/
  | mmc5WChrupper (d : Byte)
  /-- `MMC5.W.MULT1`, CPU_WRITE, R168 -/
  | mmc5WMult1 (d : Byte)
  /-- `MMC5.W.MULT2`, CPU_WRITE, R169 -/
  | mmc5WMult2 (d : Byte)
  /-- `MMC5.W.CHRA`, CPU_WRITE, R165 -/
  | mmc5WChra (i : BitVec 3) (d : Byte)
  /-- `MMC5.W.CHRB`, CPU_WRITE, R166 -/
  | mmc5WChrb (i : BitVec 2) (d : Byte)
  /-- `MMC5.W.EXRAM`, CPU_WRITE, R187 -/
  | mmc5WExram (a : Addr) (d : Byte)
  /-- `MMC5.W.PRGRAM6000`, CPU_WRITE, R175 -/
  | mmc5WPrgram6000 (a : Addr) (d : Byte)
  /-- `MMC5.W.PRG`, CPU_WRITE, R177 -/
  | mmc5WPrg (a : Addr) (d : Byte)
  /-- `MMC5.R.PRODLO`, CPU_READ, R170 -/
  | mmc5RProdlo
  /-- `MMC5.R.PRODHI`, CPU_READ, R171 -/
  | mmc5RProdhi
  /-- `MMC5.R.EXRAM`, CPU_READ, R186 -/
  | mmc5RExram (a : Addr)
  /-- `MMC5.R.PRGRAM6000`, CPU_READ, R174 -/
  | mmc5RPrgram6000 (a : Addr)
  /-- `MMC5.R.PRG`, CPU_READ, R176 -/
  | mmc5RPrg (a : Addr)
  /-- `MMC5.VR.CHR`, VID_READ, R183 -/
  | mmc5VrChr (a : Addr)
  /-- `MMC5.VW.CHR`, VID_WRITE, R184 -/
  | mmc5VwChr (a : Addr) (d : Byte)
  /-- `MMC5.VC`, VIDEO_CYCLE, R188 -/
  | mmc5Vc (scanline cycle : BitVec 16) (showBackground showSprites : Bool)
  /-- `NROM.R.PRG`, CPU_READ, R189 -/
  | nromRPrg (a : Addr)
  /-- `NROM.W.PRG`, CPU_WRITE, R190 -/
  | nromWPrg (a : Addr) (d : Byte)
  /-- `UXROM.R.PRG`, CPU_READ, R192 -/
  | uxromRPrg (a : Addr)
  /-- `UXROM.W.BANK`, CPU_WRITE, R193 -/
  | uxromWBank (a : Addr) (d : Byte)
  /-- `CNROM.W.BANK`, CPU_WRITE, R195 -/
  | cnromWBank (a : Addr) (d : Byte)
  /-- `CNROM.VR.CHR`, VID_READ, R196 -/
  | cnromVrChr (a : Addr)
  /-- `CNROM.VW.CHR`, VID_WRITE, R197 -/
  | cnromVwChr (a : Addr) (d : Byte)
  /-- `AXROM.R.PRG`, CPU_READ, R198 -/
  | axromRPrg (a : Addr)
  /-- `AXROM.W.REG`, CPU_WRITE, R199 -/
  | axromWReg (a : Addr) (d : Byte)
  /-- `CD.R.PRG`, CPU_READ, R200 -/
  | cdRPrg (a : Addr)
  /-- `CD.W.REG`, CPU_WRITE, R201 -/
  | cdWReg (a : Addr) (d : Byte)
  /-- `CD.VR.CHR`, VID_READ, R202 -/
  | cdVrChr (a : Addr)
  /-- `CD.VW.CHR`, VID_WRITE, R203 -/
  | cdVwChr (a : Addr) (d : Byte)
  /-- `CPROM.W.REG`, CPU_WRITE, R204 -/
  | cpromWReg (a : Addr) (d : Byte)
  /-- `CPROM.VR.CHR`, VID_READ, R205 -/
  | cpromVrChr (a : Addr)
  /-- `CPROM.VW.CHR`, VID_WRITE, R206 -/
  | cpromVwChr (a : Addr) (d : Byte)
  /-- `M15.W.REG`, CPU_WRITE, R207 -/
  | m15WReg (a : Addr) (d : Byte)
  /-- `M15.R.PRG`, CPU_READ, R208 -/
  | m15RPrg (a : Addr)
  /-- `M15.VW.CHR`, VID_WRITE, R209 -/
  | m15VwChr (a : Addr) (d : Byte)
  /-- `GX.R.PRG`, CPU_READ, R210 -/
  | gxRPrg (a : Addr)
  /-- `GX.W.REG`, CPU_WRITE, R211 -/
  | gxWReg (a : Addr) (d : Byte)
  /-- `GX.VR.CHR`, VID_READ, R212 -/
  | gxVrChr (a : Addr)
  /-- `GX.VW.CHR`, VID_WRITE, R213 -/
  | gxVwChr (a : Addr) (d : Byte)
  /-- `C71.R.PRG`, CPU_READ, R214 -/
  | c71RPrg (a : Addr)
  /-- `C71.W.MIRROR`, CPU_WRITE, R215 -/
  | c71WMirror (a : Addr) (d : Byte)
  /-- `C71.W.ROM`, CPU_WRITE, R216 -/
  | c71WRom (a : Addr) (d : Byte)
  /-- `C71.W.BANK`, CPU_WRITE, R217 -/
  | c71WBank (a : Addr) (d : Byte)
  /-- `MMC1.W.SERIAL`, CPU_WRITE, R221 -/
  | mmc1WSerial (a : Addr) (d : Byte)
  /-- `MMC1.R.PRG`, CPU_READ, R223 -/
  | mmc1RPrg (a : Addr)
  /-- `MMC1.R.PRGRAM`, CPU_READ, R224 -/
  | mmc1RPrgram (a : Addr)
  /-- `MMC1.W.PRGRAM`, CPU_WRITE, R225 -/
  | mmc1WPrgram (a : Addr) (d : Byte)
  /-- `MMC1.VR.CHR`, VID_READ, R226 -/
  | mmc1VrChr (a : Addr)
  /-- `MMC1.VW.CHR`, VID_WRITE, R227 -/
  | mmc1VwChr (a : Addr) (d : Byte)
  /-- `MMC24.W.ROM`, CPU_WRITE, R229 -/
  | mmc24WRom (a : Addr) (d : Byte)
  /-- `MMC24.W.PRGSEL`, CPU_WRITE, R230 -/
  | mmc24WPrgsel (a : Addr) (d : Byte)
  /-- `MMC24.W.CHR0FD`, CPU_WRITE, R231 -/
  | mmc24WChr0fd (a : Addr) (d : Byte)
  /-- `MMC24.W.CHR0FE`, CPU_WRITE, R232 -/
  | mmc24WChr0fe (a : Addr) (d : Byte)
  /-- `MMC24.W.CHR1FD`, CPU_WRITE, R233 -/
  | mmc24WChr1fd (a : Addr) (d : Byte)
  /-- `MMC24.W.CHR1FE`, CPU_WRITE, R234 -/
  | mmc24WChr1fe (a : Addr) (d : Byte)
  /-- `MMC24.W.MIRROR`, CPU_WRITE, R235 -/
  | mmc24WMirror (a : Addr) (d : Byte)
  /-- `MMC2.R.PRG`, CPU_READ, R236 -/
  | mmc2RPrg (a : Addr)
  /-- `MMC4.R.PRG`, CPU_READ, R237 -/
  | mmc4RPrg (a : Addr)
  /-- `MMC2.VR.CHR`, VID_READ, R239 -/
  | mmc2VrChr (a : Addr)
  /-- `MMC4.VR.CHR`, VID_READ, R240 -/
  | mmc4VrChr (a : Addr)
  /-- `MMC24.VW.CHR`, VID_WRITE, R241 -/
  | mmc24VwChr (a : Addr) (d : Byte)
  /-- `MMC3.R.PRGRAM`, CPU_READ, R255 -/
  | mmc3RPrgram (a : Addr)
  /-- `MMC3.W.PRGRAM`, CPU_WRITE, R256 -/
  | mmc3WPrgram (a : Addr) (d : Byte)
  /-- `MMC3.R.PRG`, CPU_READ, R251 -/
  | mmc3RPrg (a : Addr)
  /-- `MMC3.W.BANKSELECT`, CPU_WRITE, R243 -/
  | mmc3WBankselect (a : Addr) (d : Byte)
  /-- `MMC3.W.BANKDATA`, CPU_WRITE, R244 -/
  | mmc3WBankdata (a : Addr) (d : Byte)
  /-- `MMC3.W.MIRROR`, CPU_WRITE, R245 -/
  | mmc3WMirror (a : Addr) (d : Byte)
  /-- `MMC3.W.RAMPROTECT`, CPU_WRITE, R246 -/
  | mmc3WRamprotect (a : Addr) (d : Byte)
  /-- `MMC3.W.IRQLATCH`, CPU_WRITE, R247 -/
  | mmc3WIrqlatch (a : Addr) (d : Byte)
  /-- `MMC3.W.IRQRELOAD`, CPU_WRITE, R248 -/
  | mmc3WIrqreload (a : Addr) (d : Byte)
  /-- `MMC3.W.IRQDISABLE`, CPU_WRITE, R249 -/
  | mmc3WIrqdisable (a : Addr) (d : Byte)
  /-- `MMC3.W.IRQENABLE`, CPU_WRITE, R250 -/
  | mmc3WIrqenable (a : Addr) (d : Byte)
  /-- `MMC3.VR.CHR`, VID_READ, R252 -/
  | mmc3VrChr (a : Addr)
  /-- `MMC3.VW.CHR`, VID_WRITE, R253 -/
  | mmc3VwChr (a : Addr) (d : Byte)
  /-- `MMC3.VC`, VIDEO_CYCLE, R254 -/
  | mmc3Vc (scanline cycle : BitVec 16) (showBackground showSprites : Bool)
deriving DecidableEq, Repr

/-- The format a row belongs to (the table's column `format`). -/
def Instr.format : Instr → Format
  | .busRLocal _ => .busRead
  | .busWLocal _ _ => .busWrite
  | .busRCart _ => .busRead
  | .busWCart _ _ => .busWrite
  | .mirror _ _ _ => .configureMirror
  | .resetcfg => .resetConfiguration
  | .wipe => .wipe
  | .load _ => .load
  | .unload => .unload
  | .saveload _ => .saveLoad
  | .savedump => .saveDump
  | .name => .name
  | .genWUnmapped _ _ => .cpuWrite
  | .genRUnmapped _ => .cpuRead
  | .genRPrgram6000 _ => .cpuRead
  | .genWPrgram6000 _ _ => .cpuWrite
  | .genVrChr8fixed _ => .vidRead
  | .genVwChr8fixed _ _ => .vidWrite
  | .genVcNop _ _ _ _ => .videoCycle
  | .mmc5WPrgmode _ => .cpuWrite
  | .mmc5WChrmode _ => .cpuWrite
  | .mmc5WProtect1 _ => .cpuWrite
  | .mmc5WProtect2 _ => .cpuWrite
  | .mmc5WExrammode _ => .cpuWrite
  | .mmc5WNtmap _ => .cpuWrite
  | .mmc5WFilltile _ => .cpuWrite
  | .mmc5WFillattr _ => .cpuWrite
  | .mmc5WPrgrambank _ => .cpuWrite
  | .mmc5WPrgbank0 _ => .cpuWrite
  | .mmc5WPrgbank1 _ => .cpuWrite
  | .mmc5WPrgbank2 _ => .cpuWrite
  | .mmc5WPrgbank3 _ => .cpuWrite
  | .mmc5WChrupper _ => .cpuWrite
  | .mmc5WMult1 _ => .cpuWrite
  | .mmc5WMult2 _ => .cpuWrite
  | .mmc5WChra _ _ => .cpuWrite
  | .mmc5WChrb _ _ => .cpuWrite
  | .mmc5WExram _ _ => .cpuWrite
  | .mmc5WPrgram6000 _ _ => .cpuWrite
  | .mmc5WPrg _ _ => .cpuWrite
  | .mmc5RProdlo => .cpuRead
  | .mmc5RProdhi => .cpuRead
  | .mmc5RExram _ => .cpuRead
  | .mmc5RPrgram6000 _ => .cpuRead
  | .mmc5RPrg _ => .cpuRead
  | .mmc5VrChr _ => .vidRead
  | .mmc5VwChr _ _ => .vidWrite
  | .mmc5Vc _ _ _ _ => .videoCycle
  | .nromRPrg _ => .cpuRead
  | .nromWPrg _ _ => .cpuWrite
  | .uxromRPrg _ => .cpuRead
  | .uxromWBank _ _ => .cpuWrite
  | .cnromWBank _ _ => .cpuWrite
  | .cnromVrChr _ => .vidRead
  | .cnromVwChr _ _ => .vidWrite
  | .axromRPrg _ => .cpuRead
  | .axromWReg _ _ => .cpuWrite
  | .cdRPrg _ => .cpuRead
  | .cdWReg _ _ => .cpuWrite
  | .cdVrChr _ => .vidRead
  | .cdVwChr _ _ => .vidWrite
  | .cpromWReg _ _ => .cpuWrite
  | .cpromVrChr _ => .vidRead
  | .cpromVwChr _ _ => .vidWrite
  | .m15WReg _ _ => .cpuWrite
  | .m15RPrg _ => .cpuRead
  | .m15VwChr _ _ => .vidWrite
  | .gxRPrg _ => .cpuRead
  | .gxWReg _ _ => .cpuWrite
  | .gxVrChr _ => .vidRead
  | .gxVwChr _ _ => .vidWrite
  | .c71RPrg _ => .cpuRead
  | .c71WMirror _ _ => .cpuWrite
  | .c71WRom _ _ => .cpuWrite
  | .c71WBank _ _ => .cpuWrite
  | .mmc1WSerial _ _ => .cpuWrite
  | .mmc1RPrg _ => .cpuRead
  | .mmc1RPrgram _ => .cpuRead
  | .mmc1WPrgram _ _ => .cpuWrite
  | .mmc1VrChr _ => .vidRead
  | .mmc1VwChr _ _ => .vidWrite
  | .mmc24WRom _ _ => .cpuWrite
  | .mmc24WPrgsel _ _ => .cpuWrite
  | .mmc24WChr0fd _ _ => .cpuWrite
  | .mmc24WChr0fe _ _ => .cpuWrite
  | .mmc24WChr1fd _ _ => .cpuWrite
  | .mmc24WChr1fe _ _ => .cpuWrite
  | .mmc24WMirror _ _ => .cpuWrite
  | .mmc2RPrg _ => .cpuRead
  | .mmc4RPrg _ => .cpuRead
  | .mmc2VrChr _ => .vidRead
  | .mmc4VrChr _ => .vidRead
  | .mmc24VwChr _ _ => .vidWrite
  | .mmc3RPrgram _ => .cpuRead
  | .mmc3WPrgram _ _ => .cpuWrite
  | .mmc3RPrg _ => .cpuRead
  | .mmc3WBankselect _ _ => .cpuWrite
  | .mmc3WBankdata _ _ => .cpuWrite
  | .mmc3WMirror _ _ => .cpuWrite
  | .mmc3WRamprotect _ _ => .cpuWrite
  | .mmc3WIrqlatch _ _ => .cpuWrite
  | .mmc3WIrqreload _ _ => .cpuWrite
  | .mmc3WIrqdisable _ _ => .cpuWrite
  | .mmc3WIrqenable _ _ => .cpuWrite
  | .mmc3VrChr _ => .vidRead
  | .mmc3VwChr _ _ => .vidWrite
  | .mmc3Vc _ _ _ _ => .videoCycle

end Sys2Proof
end

