-- ==== Sys2Proof/WellFormed.lean ====
section
/-! DEFINITION. Which instructions are well formed: the address ranges of spec/opcode_table.json (30 R82 to R89) and the
operand ranges of 30 R72; and which variants decode each mapper row (the table's column `variants`). -/

namespace Sys2Proof

/-- An even or an odd address of `lo..hi`: the MMC3 register rows, whose mask is 0xE001 (30 R89). -/
def withinParity (lo hi parity : Nat) (a : Addr) : Bool := within lo hi a && a.toNat % 2 == parity

/-- The operands lie in the ranges that the row and its format give. -/
def Instr.wf (p : Params) : Instr → Bool
  | .busRLocal a => decide (a.toNat < p.cartBase)
  | .busWLocal a _ => decide (a.toNat < p.cartBase)
  | .busRCart a => within p.cartBase 0xFFFF a
  | .busWCart a _ => within p.cartBase 0xFFFF a
  | .mirror _ regionSize extent => decide (regionSize.toNat ≤ 65536) && decide (extent.toNat ≤ 65536)
  | .resetcfg => true
  | .wipe => true
  | .load _ => true
  | .unload => true
  | .saveload _ => true
  | .savedump => true
  | .name => true
  | .genWUnmapped a _ => within p.cartBase 0xFFFF a
  | .genRUnmapped a => within p.cartBase 0xFFFF a
  | .genRPrgram6000 a => within 0x6000 0x7FFF a
  | .genWPrgram6000 a _ => within 0x6000 0x7FFF a
  | .genVrChr8fixed a => within 0x0000 0x1FFF a
  | .genVwChr8fixed a _ => within 0x0000 0x1FFF a
  | .genVcNop _ _ _ _ => true
  | .mmc5WPrgmode _ => true
  | .mmc5WChrmode _ => true
  | .mmc5WProtect1 _ => true
  | .mmc5WProtect2 _ => true
  | .mmc5WExrammode _ => true
  | .mmc5WNtmap _ => true
  | .mmc5WFilltile _ => true
  | .mmc5WFillattr _ => true
  | .mmc5WPrgrambank _ => true
  | .mmc5WPrgbank0 _ => true
  | .mmc5WPrgbank1 _ => true
  | .mmc5WPrgbank2 _ => true
  | .mmc5WPrgbank3 _ => true
  | .mmc5WChrupper _ => true
  | .mmc5WMult1 _ => true
  | .mmc5WMult2 _ => true
  | .mmc5WChra _ _ => true
  | .mmc5WChrb _ _ => true
  | .mmc5WExram a _ => within 0x5C00 0x5FFF a
  | .mmc5WPrgram6000 a _ => within 0x6000 0x7FFF a
  | .mmc5WPrg a _ => within 0x8000 0xFFFF a
  | .mmc5RProdlo => true
  | .mmc5RProdhi => true
  | .mmc5RExram a => within 0x5C00 0x5FFF a
  | .mmc5RPrgram6000 a => within 0x6000 0x7FFF a
  | .mmc5RPrg a => within 0x8000 0xFFFF a
  | .mmc5VrChr a => within 0x0000 0x1FFF a
  | .mmc5VwChr a _ => within 0x0000 0x1FFF a
  | .mmc5Vc _ _ _ _ => true
  | .nromRPrg a => within 0x8000 0xFFFF a
  | .nromWPrg a _ => within 0x8000 0xFFFF a
  | .uxromRPrg a => within 0x8000 0xFFFF a
  | .uxromWBank a _ => within 0x8000 0xFFFF a
  | .cnromWBank a _ => within 0x8000 0xFFFF a
  | .cnromVrChr a => within 0x0000 0x1FFF a
  | .cnromVwChr a _ => within 0x0000 0x1FFF a
  | .axromRPrg a => within 0x8000 0xFFFF a
  | .axromWReg a _ => within 0x8000 0xFFFF a
  | .cdRPrg a => within 0x8000 0xFFFF a
  | .cdWReg a _ => within 0x8000 0xFFFF a
  | .cdVrChr a => within 0x0000 0x1FFF a
  | .cdVwChr a _ => within 0x0000 0x1FFF a
  | .cpromWReg a _ => within 0x8000 0xFFFF a
  | .cpromVrChr a => within 0x0000 0x1FFF a
  | .cpromVwChr a _ => within 0x0000 0x1FFF a
  | .m15WReg a _ => within 0x8000 0xFFFF a
  | .m15RPrg a => within 0x8000 0xFFFF a
  | .m15VwChr a _ => within 0x0000 0x1FFF a
  | .gxRPrg a => within 0x8000 0xFFFF a
  | .gxWReg a _ => within 0x8000 0xFFFF a
  | .gxVrChr a => within 0x0000 0x1FFF a
  | .gxVwChr a _ => within 0x0000 0x1FFF a
  | .c71RPrg a => within 0x8000 0xFFFF a
  | .c71WMirror a _ => within 0x8000 0x9FFF a
  | .c71WRom a _ => within 0xA000 0xBFFF a
  | .c71WBank a _ => within 0xC000 0xFFFF a
  | .mmc1WSerial a _ => within 0x8000 0xFFFF a
  | .mmc1RPrg a => within 0x8000 0xFFFF a
  | .mmc1RPrgram a => within 0x6000 0x7FFF a
  | .mmc1WPrgram a _ => within 0x6000 0x7FFF a
  | .mmc1VrChr a => within 0x0000 0x1FFF a
  | .mmc1VwChr a _ => within 0x0000 0x1FFF a
  | .mmc24WRom a _ => within 0x8000 0x9FFF a
  | .mmc24WPrgsel a _ => within 0xA000 0xAFFF a
  | .mmc24WChr0fd a _ => within 0xB000 0xBFFF a
  | .mmc24WChr0fe a _ => within 0xC000 0xCFFF a
  | .mmc24WChr1fd a _ => within 0xD000 0xDFFF a
  | .mmc24WChr1fe a _ => within 0xE000 0xEFFF a
  | .mmc24WMirror a _ => within 0xF000 0xFFFF a
  | .mmc2RPrg a => within 0x8000 0xFFFF a
  | .mmc4RPrg a => within 0x8000 0xFFFF a
  | .mmc2VrChr a => within 0x0000 0x1FFF a
  | .mmc4VrChr a => within 0x0000 0x1FFF a
  | .mmc24VwChr a _ => within 0x0000 0x1FFF a
  | .mmc3RPrgram a => within 0x6000 0x7FFF a
  | .mmc3WPrgram a _ => within 0x6000 0x7FFF a
  | .mmc3RPrg a => within 0x8000 0xFFFF a
  | .mmc3WBankselect a _ => withinParity 0x8000 0x9FFF 0 a
  | .mmc3WBankdata a _ => withinParity 0x8000 0x9FFF 1 a
  | .mmc3WMirror a _ => withinParity 0xA000 0xBFFF 0 a
  | .mmc3WRamprotect a _ => withinParity 0xA000 0xBFFF 1 a
  | .mmc3WIrqlatch a _ => withinParity 0xC000 0xDFFF 0 a
  | .mmc3WIrqreload a _ => withinParity 0xC000 0xDFFF 1 a
  | .mmc3WIrqdisable a _ => withinParity 0xE000 0xFFFF 0 a
  | .mmc3WIrqenable a _ => withinParity 0xE000 0xFFFF 1 a
  | .mmc3VrChr a => within 0x0000 0x1FFF a
  | .mmc3VwChr a _ => within 0x0000 0x1FFF a
  | .mmc3Vc _ _ _ _ => true

/-- The variants whose decode map holds the row; none for the bus and host rows, which no variant decodes. -/
def Instr.variants : Instr → List Variant
  | .busRLocal _ => []
  | .busWLocal _ _ => []
  | .busRCart _ => []
  | .busWCart _ _ => []
  | .mirror _ _ _ => []
  | .resetcfg => []
  | .wipe => []
  | .load _ => []
  | .unload => []
  | .saveload _ => []
  | .savedump => []
  | .name => []
  | .genWUnmapped _ _ => [.nrom, .mmc1, .uxrom, .cnrom, .mmc3, .mmc5, .axrom, .mmc2, .mmc4, .colorDreams, .cprom, .m15, .gxrom, .camerica71]
  | .genRUnmapped _ => [.nrom, .mmc1, .uxrom, .cnrom, .mmc3, .mmc5, .axrom, .mmc2, .mmc4, .colorDreams, .cprom, .m15, .gxrom, .camerica71]
  | .genRPrgram6000 _ => [.nrom, .uxrom, .cnrom, .axrom, .mmc2, .mmc4, .colorDreams, .cprom, .m15, .gxrom, .camerica71]
  | .genWPrgram6000 _ _ => [.nrom, .uxrom, .cnrom, .axrom, .mmc2, .mmc4, .colorDreams, .cprom, .m15, .gxrom, .camerica71]
  | .genVrChr8fixed _ => [.nrom, .uxrom, .axrom, .m15, .camerica71]
  | .genVwChr8fixed _ _ => [.nrom, .uxrom, .axrom, .camerica71]
  | .genVcNop _ _ _ _ => [.nrom, .mmc1, .uxrom, .cnrom, .axrom, .mmc2, .mmc4, .colorDreams, .cprom, .m15, .gxrom, .camerica71]
  | .mmc5WPrgmode _ => [.mmc5]
  | .mmc5WChrmode _ => [.mmc5]
  | .mmc5WProtect1 _ => [.mmc5]
  | .mmc5WProtect2 _ => [.mmc5]
  | .mmc5WExrammode _ => [.mmc5]
  | .mmc5WNtmap _ => [.mmc5]
  | .mmc5WFilltile _ => [.mmc5]
  | .mmc5WFillattr _ => [.mmc5]
  | .mmc5WPrgrambank _ => [.mmc5]
  | .mmc5WPrgbank0 _ => [.mmc5]
  | .mmc5WPrgbank1 _ => [.mmc5]
  | .mmc5WPrgbank2 _ => [.mmc5]
  | .mmc5WPrgbank3 _ => [.mmc5]
  | .mmc5WChrupper _ => [.mmc5]
  | .mmc5WMult1 _ => [.mmc5]
  | .mmc5WMult2 _ => [.mmc5]
  | .mmc5WChra _ _ => [.mmc5]
  | .mmc5WChrb _ _ => [.mmc5]
  | .mmc5WExram _ _ => [.mmc5]
  | .mmc5WPrgram6000 _ _ => [.mmc5]
  | .mmc5WPrg _ _ => [.mmc5]
  | .mmc5RProdlo => [.mmc5]
  | .mmc5RProdhi => [.mmc5]
  | .mmc5RExram _ => [.mmc5]
  | .mmc5RPrgram6000 _ => [.mmc5]
  | .mmc5RPrg _ => [.mmc5]
  | .mmc5VrChr _ => [.mmc5]
  | .mmc5VwChr _ _ => [.mmc5]
  | .mmc5Vc _ _ _ _ => [.mmc5]
  | .nromRPrg _ => [.nrom, .cnrom, .cprom]
  | .nromWPrg _ _ => [.nrom]
  | .uxromRPrg _ => [.uxrom]
  | .uxromWBank _ _ => [.uxrom]
  | .cnromWBank _ _ => [.cnrom]
  | .cnromVrChr _ => [.cnrom]
  | .cnromVwChr _ _ => [.cnrom]
  | .axromRPrg _ => [.axrom]
  | .axromWReg _ _ => [.axrom]
  | .cdRPrg _ => [.colorDreams]
  | .cdWReg _ _ => [.colorDreams]
  | .cdVrChr _ => [.colorDreams]
  | .cdVwChr _ _ => [.colorDreams]
  | .cpromWReg _ _ => [.cprom]
  | .cpromVrChr _ => [.cprom]
  | .cpromVwChr _ _ => [.cprom]
  | .m15WReg _ _ => [.m15]
  | .m15RPrg _ => [.m15]
  | .m15VwChr _ _ => [.m15]
  | .gxRPrg _ => [.gxrom]
  | .gxWReg _ _ => [.gxrom]
  | .gxVrChr _ => [.gxrom]
  | .gxVwChr _ _ => [.gxrom]
  | .c71RPrg _ => [.camerica71]
  | .c71WMirror _ _ => [.camerica71]
  | .c71WRom _ _ => [.camerica71]
  | .c71WBank _ _ => [.camerica71]
  | .mmc1WSerial _ _ => [.mmc1]
  | .mmc1RPrg _ => [.mmc1]
  | .mmc1RPrgram _ => [.mmc1]
  | .mmc1WPrgram _ _ => [.mmc1]
  | .mmc1VrChr _ => [.mmc1]
  | .mmc1VwChr _ _ => [.mmc1]
  | .mmc24WRom _ _ => [.mmc2, .mmc4]
  | .mmc24WPrgsel _ _ => [.mmc2, .mmc4]
  | .mmc24WChr0fd _ _ => [.mmc2, .mmc4]
  | .mmc24WChr0fe _ _ => [.mmc2, .mmc4]
  | .mmc24WChr1fd _ _ => [.mmc2, .mmc4]
  | .mmc24WChr1fe _ _ => [.mmc2, .mmc4]
  | .mmc24WMirror _ _ => [.mmc2, .mmc4]
  | .mmc2RPrg _ => [.mmc2]
  | .mmc4RPrg _ => [.mmc4]
  | .mmc2VrChr _ => [.mmc2]
  | .mmc4VrChr _ => [.mmc4]
  | .mmc24VwChr _ _ => [.mmc2, .mmc4]
  | .mmc3RPrgram _ => [.mmc3]
  | .mmc3WPrgram _ _ => [.mmc3]
  | .mmc3RPrg _ => [.mmc3]
  | .mmc3WBankselect _ _ => [.mmc3]
  | .mmc3WBankdata _ _ => [.mmc3]
  | .mmc3WMirror _ _ => [.mmc3]
  | .mmc3WRamprotect _ _ => [.mmc3]
  | .mmc3WIrqlatch _ _ => [.mmc3]
  | .mmc3WIrqreload _ _ => [.mmc3]
  | .mmc3WIrqdisable _ _ => [.mmc3]
  | .mmc3WIrqenable _ _ => [.mmc3]
  | .mmc3VrChr _ => [.mmc3]
  | .mmc3VwChr _ _ => [.mmc3]
  | .mmc3Vc _ _ _ _ => [.mmc3]

end Sys2Proof
end

