-- ==== Sys2Proof/Decode.lean ====
section
/-! DEFINITION. The decode procedure of 30 R82 and R83 over the opcode table, the operand bytes of a request (log 1), and
the encoder that writes a well-formed instruction as a request. -/

namespace Sys2Proof

/-- One mapper row of spec/opcode_table.json: the variants that decode it, its address range, for the MMC3 registers the
parity that the mask 0xE001 tests (30 R89), the table's match and mask, and the instruction it selects. -/
structure Row where
  variants : List Variant
  lo : Nat
  hi : Nat
  parity : Option Nat
  matchBits : Addr
  mask : Addr
  build : Addr → Byte → Instr

/-- The row's address test, 30 R82 and R89. -/
def coversRow (r : Row) (a : Addr) : Bool :=
  within r.lo r.hi a &&
    match r.parity with
    | none => true
    | some p => a.toNat % 2 == p

/-- The row belongs to the variant and its address test holds (30 R82). -/
def selectsRow (v : Variant) (a : Addr) (r : Row) : Bool := r.variants.contains v && coversRow r a

/-- The `CPU_WRITE` rows but the default one (30 R84, R87, R88). -/
def cpuWriteRows : List Row :=
  [ ⟨[.nrom, .uxrom, .cnrom, .axrom, .mmc2, .mmc4, .colorDreams, .cprom, .m15, .gxrom, .camerica71], 0x6000, 0x7FFF, none, 0x6000, 0xE000, fun a d => .genWPrgram6000 a d⟩,
    ⟨[.mmc5], 0x5100, 0x5100, none, 0x5100, 0xFFFF, fun _ d => .mmc5WPrgmode d⟩,
    ⟨[.mmc5], 0x5101, 0x5101, none, 0x5101, 0xFFFF, fun _ d => .mmc5WChrmode d⟩,
    ⟨[.mmc5], 0x5102, 0x5102, none, 0x5102, 0xFFFF, fun _ d => .mmc5WProtect1 d⟩,
    ⟨[.mmc5], 0x5103, 0x5103, none, 0x5103, 0xFFFF, fun _ d => .mmc5WProtect2 d⟩,
    ⟨[.mmc5], 0x5104, 0x5104, none, 0x5104, 0xFFFF, fun _ d => .mmc5WExrammode d⟩,
    ⟨[.mmc5], 0x5105, 0x5105, none, 0x5105, 0xFFFF, fun _ d => .mmc5WNtmap d⟩,
    ⟨[.mmc5], 0x5106, 0x5106, none, 0x5106, 0xFFFF, fun _ d => .mmc5WFilltile d⟩,
    ⟨[.mmc5], 0x5107, 0x5107, none, 0x5107, 0xFFFF, fun _ d => .mmc5WFillattr d⟩,
    ⟨[.mmc5], 0x5113, 0x5113, none, 0x5113, 0xFFFF, fun _ d => .mmc5WPrgrambank d⟩,
    ⟨[.mmc5], 0x5114, 0x5114, none, 0x5114, 0xFFFF, fun _ d => .mmc5WPrgbank0 d⟩,
    ⟨[.mmc5], 0x5115, 0x5115, none, 0x5115, 0xFFFF, fun _ d => .mmc5WPrgbank1 d⟩ ] ++
  [ ⟨[.mmc5], 0x5116, 0x5116, none, 0x5116, 0xFFFF, fun _ d => .mmc5WPrgbank2 d⟩,
    ⟨[.mmc5], 0x5117, 0x5117, none, 0x5117, 0xFFFF, fun _ d => .mmc5WPrgbank3 d⟩,
    ⟨[.mmc5], 0x5130, 0x5130, none, 0x5130, 0xFFFF, fun _ d => .mmc5WChrupper d⟩,
    ⟨[.mmc5], 0x5205, 0x5205, none, 0x5205, 0xFFFF, fun _ d => .mmc5WMult1 d⟩,
    ⟨[.mmc5], 0x5206, 0x5206, none, 0x5206, 0xFFFF, fun _ d => .mmc5WMult2 d⟩,
    ⟨[.mmc5], 0x5120, 0x5127, none, 0x5120, 0xFFF8, fun a d => .mmc5WChra (a.extractLsb' 0 3) d⟩,
    ⟨[.mmc5], 0x5128, 0x512B, none, 0x5128, 0xFFFC, fun a d => .mmc5WChrb (a.extractLsb' 0 2) d⟩,
    ⟨[.mmc5], 0x5C00, 0x5FFF, none, 0x5C00, 0xFC00, fun a d => .mmc5WExram a d⟩,
    ⟨[.mmc5], 0x6000, 0x7FFF, none, 0x6000, 0xE000, fun a d => .mmc5WPrgram6000 a d⟩,
    ⟨[.mmc5], 0x8000, 0xFFFF, none, 0x8000, 0x8000, fun a d => .mmc5WPrg a d⟩,
    ⟨[.nrom], 0x8000, 0xFFFF, none, 0x8000, 0x8000, fun a d => .nromWPrg a d⟩,
    ⟨[.uxrom], 0x8000, 0xFFFF, none, 0x8000, 0x8000, fun a d => .uxromWBank a d⟩ ] ++
  [ ⟨[.cnrom], 0x8000, 0xFFFF, none, 0x8000, 0x8000, fun a d => .cnromWBank a d⟩,
    ⟨[.axrom], 0x8000, 0xFFFF, none, 0x8000, 0x8000, fun a d => .axromWReg a d⟩,
    ⟨[.colorDreams], 0x8000, 0xFFFF, none, 0x8000, 0x8000, fun a d => .cdWReg a d⟩,
    ⟨[.cprom], 0x8000, 0xFFFF, none, 0x8000, 0x8000, fun a d => .cpromWReg a d⟩,
    ⟨[.m15], 0x8000, 0xFFFF, none, 0x8000, 0x8000, fun a d => .m15WReg a d⟩,
    ⟨[.gxrom], 0x8000, 0xFFFF, none, 0x8000, 0x8000, fun a d => .gxWReg a d⟩,
    ⟨[.camerica71], 0x8000, 0x9FFF, none, 0x8000, 0xE000, fun a d => .c71WMirror a d⟩,
    ⟨[.camerica71], 0xA000, 0xBFFF, none, 0xA000, 0xE000, fun a d => .c71WRom a d⟩,
    ⟨[.camerica71], 0xC000, 0xFFFF, none, 0xC000, 0xC000, fun a d => .c71WBank a d⟩,
    ⟨[.mmc1], 0x8000, 0xFFFF, none, 0x8000, 0x8000, fun a d => .mmc1WSerial a d⟩,
    ⟨[.mmc1], 0x6000, 0x7FFF, none, 0x6000, 0xE000, fun a d => .mmc1WPrgram a d⟩,
    ⟨[.mmc2, .mmc4], 0x8000, 0x9FFF, none, 0x8000, 0xE000, fun a d => .mmc24WRom a d⟩ ] ++
  [ ⟨[.mmc2, .mmc4], 0xA000, 0xAFFF, none, 0xA000, 0xF000, fun a d => .mmc24WPrgsel a d⟩,
    ⟨[.mmc2, .mmc4], 0xB000, 0xBFFF, none, 0xB000, 0xF000, fun a d => .mmc24WChr0fd a d⟩,
    ⟨[.mmc2, .mmc4], 0xC000, 0xCFFF, none, 0xC000, 0xF000, fun a d => .mmc24WChr0fe a d⟩,
    ⟨[.mmc2, .mmc4], 0xD000, 0xDFFF, none, 0xD000, 0xF000, fun a d => .mmc24WChr1fd a d⟩,
    ⟨[.mmc2, .mmc4], 0xE000, 0xEFFF, none, 0xE000, 0xF000, fun a d => .mmc24WChr1fe a d⟩,
    ⟨[.mmc2, .mmc4], 0xF000, 0xFFFF, none, 0xF000, 0xF000, fun a d => .mmc24WMirror a d⟩,
    ⟨[.mmc3], 0x6000, 0x7FFF, none, 0x6000, 0xE000, fun a d => .mmc3WPrgram a d⟩,
    ⟨[.mmc3], 0x8000, 0x9FFF, some 0, 0x8000, 0xE001, fun a d => .mmc3WBankselect a d⟩,
    ⟨[.mmc3], 0x8000, 0x9FFF, some 1, 0x8001, 0xE001, fun a d => .mmc3WBankdata a d⟩,
    ⟨[.mmc3], 0xA000, 0xBFFF, some 0, 0xA000, 0xE001, fun a d => .mmc3WMirror a d⟩,
    ⟨[.mmc3], 0xA000, 0xBFFF, some 1, 0xA001, 0xE001, fun a d => .mmc3WRamprotect a d⟩,
    ⟨[.mmc3], 0xC000, 0xDFFF, some 0, 0xC000, 0xE001, fun a d => .mmc3WIrqlatch a d⟩ ] ++
  [ ⟨[.mmc3], 0xC000, 0xDFFF, some 1, 0xC001, 0xE001, fun a d => .mmc3WIrqreload a d⟩,
    ⟨[.mmc3], 0xE000, 0xFFFF, some 0, 0xE000, 0xE001, fun a d => .mmc3WIrqdisable a d⟩,
    ⟨[.mmc3], 0xE000, 0xFFFF, some 1, 0xE001, 0xE001, fun a d => .mmc3WIrqenable a d⟩ ]

/-- The `CPU_READ` rows but the default one (30 R85, R87, R88). -/
def cpuReadRows : List Row :=
  [ ⟨[.nrom, .uxrom, .cnrom, .axrom, .mmc2, .mmc4, .colorDreams, .cprom, .m15, .gxrom, .camerica71], 0x6000, 0x7FFF, none, 0x6000, 0xE000, fun a _ => .genRPrgram6000 a⟩,
    ⟨[.mmc5], 0x5205, 0x5205, none, 0x5205, 0xFFFF, fun _ _ => .mmc5RProdlo⟩,
    ⟨[.mmc5], 0x5206, 0x5206, none, 0x5206, 0xFFFF, fun _ _ => .mmc5RProdhi⟩,
    ⟨[.mmc5], 0x5C00, 0x5FFF, none, 0x5C00, 0xFC00, fun a _ => .mmc5RExram a⟩,
    ⟨[.mmc5], 0x6000, 0x7FFF, none, 0x6000, 0xE000, fun a _ => .mmc5RPrgram6000 a⟩,
    ⟨[.mmc5], 0x8000, 0xFFFF, none, 0x8000, 0x8000, fun a _ => .mmc5RPrg a⟩,
    ⟨[.nrom, .cnrom, .cprom], 0x8000, 0xFFFF, none, 0x8000, 0x8000, fun a _ => .nromRPrg a⟩,
    ⟨[.uxrom], 0x8000, 0xFFFF, none, 0x8000, 0x8000, fun a _ => .uxromRPrg a⟩,
    ⟨[.axrom], 0x8000, 0xFFFF, none, 0x8000, 0x8000, fun a _ => .axromRPrg a⟩,
    ⟨[.colorDreams], 0x8000, 0xFFFF, none, 0x8000, 0x8000, fun a _ => .cdRPrg a⟩,
    ⟨[.m15], 0x8000, 0xFFFF, none, 0x8000, 0x8000, fun a _ => .m15RPrg a⟩,
    ⟨[.gxrom], 0x8000, 0xFFFF, none, 0x8000, 0x8000, fun a _ => .gxRPrg a⟩ ] ++
  [ ⟨[.camerica71], 0x8000, 0xFFFF, none, 0x8000, 0x8000, fun a _ => .c71RPrg a⟩,
    ⟨[.mmc1], 0x8000, 0xFFFF, none, 0x8000, 0x8000, fun a _ => .mmc1RPrg a⟩,
    ⟨[.mmc1], 0x6000, 0x7FFF, none, 0x6000, 0xE000, fun a _ => .mmc1RPrgram a⟩,
    ⟨[.mmc2], 0x8000, 0xFFFF, none, 0x8000, 0x8000, fun a _ => .mmc2RPrg a⟩,
    ⟨[.mmc4], 0x8000, 0xFFFF, none, 0x8000, 0x8000, fun a _ => .mmc4RPrg a⟩,
    ⟨[.mmc3], 0x6000, 0x7FFF, none, 0x6000, 0xE000, fun a _ => .mmc3RPrgram a⟩,
    ⟨[.mmc3], 0x8000, 0xFFFF, none, 0x8000, 0x8000, fun a _ => .mmc3RPrg a⟩ ]

/-- The `VID_READ` rows (30 R85, R87, R88). -/
def vidReadRows : List Row :=
  [ ⟨[.nrom, .uxrom, .axrom, .m15, .camerica71], 0x0000, 0x1FFF, none, 0x0000, 0xE000, fun a _ => .genVrChr8fixed a⟩,
    ⟨[.mmc5], 0x0000, 0x1FFF, none, 0x0000, 0xE000, fun a _ => .mmc5VrChr a⟩,
    ⟨[.cnrom], 0x0000, 0x1FFF, none, 0x0000, 0xE000, fun a _ => .cnromVrChr a⟩,
    ⟨[.colorDreams], 0x0000, 0x1FFF, none, 0x0000, 0xE000, fun a _ => .cdVrChr a⟩,
    ⟨[.cprom], 0x0000, 0x1FFF, none, 0x0000, 0xE000, fun a _ => .cpromVrChr a⟩,
    ⟨[.gxrom], 0x0000, 0x1FFF, none, 0x0000, 0xE000, fun a _ => .gxVrChr a⟩,
    ⟨[.mmc1], 0x0000, 0x1FFF, none, 0x0000, 0xE000, fun a _ => .mmc1VrChr a⟩,
    ⟨[.mmc2], 0x0000, 0x1FFF, none, 0x0000, 0xE000, fun a _ => .mmc2VrChr a⟩,
    ⟨[.mmc4], 0x0000, 0x1FFF, none, 0x0000, 0xE000, fun a _ => .mmc4VrChr a⟩,
    ⟨[.mmc3], 0x0000, 0x1FFF, none, 0x0000, 0xE000, fun a _ => .mmc3VrChr a⟩ ]

/-- The `VID_WRITE` rows (30 R85, R87, R88). -/
def vidWriteRows : List Row :=
  [ ⟨[.nrom, .uxrom, .axrom, .camerica71], 0x0000, 0x1FFF, none, 0x0000, 0xE000, fun a d => .genVwChr8fixed a d⟩,
    ⟨[.mmc5], 0x0000, 0x1FFF, none, 0x0000, 0xE000, fun a d => .mmc5VwChr a d⟩,
    ⟨[.cnrom], 0x0000, 0x1FFF, none, 0x0000, 0xE000, fun a d => .cnromVwChr a d⟩,
    ⟨[.colorDreams], 0x0000, 0x1FFF, none, 0x0000, 0xE000, fun a d => .cdVwChr a d⟩,
    ⟨[.cprom], 0x0000, 0x1FFF, none, 0x0000, 0xE000, fun a d => .cpromVwChr a d⟩,
    ⟨[.m15], 0x0000, 0x1FFF, none, 0x0000, 0xE000, fun a d => .m15VwChr a d⟩,
    ⟨[.gxrom], 0x0000, 0x1FFF, none, 0x0000, 0xE000, fun a d => .gxVwChr a d⟩,
    ⟨[.mmc1], 0x0000, 0x1FFF, none, 0x0000, 0xE000, fun a d => .mmc1VwChr a d⟩,
    ⟨[.mmc2, .mmc4], 0x0000, 0x1FFF, none, 0x0000, 0xE000, fun a d => .mmc24VwChr a d⟩,
    ⟨[.mmc3], 0x0000, 0x1FFF, none, 0x0000, 0xE000, fun a d => .mmc3VwChr a d⟩ ]

/-- The mapper rows of a format; none for a format whose rows have no address test. -/
def rowsOf : Format → List Row
  | .cpuWrite => cpuWriteRows
  | .cpuRead => cpuReadRows
  | .vidRead => vidReadRows
  | .vidWrite => vidWriteRows
  | _ => []

/-- The row, other than a default row, that a variant's decode map holds for a format and an address (30 R82). -/
def findRow (v : Variant) (f : Format) (a : Addr) : Option Row := (rowsOf f).find? (selectsRow v a)

/-- The default rows of 30 R82, for an address of the cartridge range that no other row of the variant and format covers. -/
def defaultRow (f : Format) (a : Addr) (d : Byte) : Option Instr :=
  match f with
  | .cpuRead => some (.genRUnmapped a)
  | .cpuWrite => some (.genWUnmapped a d)
  | _ => none

/-- A CPU-side mapper access below `CART_BASE`, which has no meaning (20 R50, R52). -/
def belowCart (p : Params) (f : Format) (a : Addr) : Bool :=
  match f with
  | .cpuRead => decide (a.toNat < p.cartBase)
  | .cpuWrite => decide (a.toNat < p.cartBase)
  | _ => false

/-- The decode procedure of 30 R82 for a mapper transaction of format `f` at address `a`; `d` is a write's data. -/
def mapperRow (p : Params) (v : Variant) (f : Format) (a : Addr) (d : Byte) : Option Instr :=
  if belowCart p f a then none
  else
    match findRow v f a with
    | some r => some (r.build a d)
    | none => defaultRow f a d

/-- The `VIDEO_CYCLE` row of a variant (30 R85, R87, R88). -/
def videoCycleRow (v : Variant) (scanline cycle : BitVec 16) (showBackground showSprites : Bool) : Instr :=
  match v with
  | .mmc5 => .mmc5Vc scanline cycle showBackground showSprites
  | .mmc3 => .mmc3Vc scanline cycle showBackground showSprites
  | _ => .genVcNop scanline cycle showBackground showSprites

/-- Bus decode of a read, 30 R83. -/
def busReadRow (p : Params) (a : Addr) : Instr := if a.toNat < p.cartBase then .busRLocal a else .busRCart a

/-- Bus decode of a write, 30 R83. -/
def busWriteRow (p : Params) (a : Addr) (d : Byte) : Instr :=
  if a.toNat < p.cartBase then .busWLocal a d else .busWCart a d

/-- Why a request has no instruction. -/
inductive DecodeError where
  /-- a row of a mapper is asked for and no cartridge is loaded (60 R267) -/
  | noCartridge
  /-- a video address outside 0x0000..0x1FFF (20 R52, 60 R267) -/
  | badVideoAddress
  /-- a mapper address below the cartridge range, which no row covers (20 R52) -/
  | noRow
  /-- operand bytes that are not the fields of the format (30 R72, log 1) -/
  | badOperands
deriving DecidableEq, Repr

/-- A 16-bit field from its two bytes. -/
def fieldOf16 (lo hi : Byte) : BitVec 16 := hi ++ lo

/-- A 17-bit field of 30 R72 from its three bytes: at most 65536. -/
def fieldOf17 (b0 b1 b2 : Byte) : Option (BitVec 17) :=
  let n := b0.toNat + 256 * b1.toNat + 65536 * b2.toNat
  if n ≤ 65536 then some (BitVec.ofNat 17 n) else none

/-- Byte `k` of a field. -/
def byteOf {w : Nat} (x : BitVec w) (k : Nat) : Byte := (x >>> (8 * k)).setWidth 8

/-- The two bytes of a 16-bit field. -/
def bytesOf16 (x : BitVec 16) : List Byte := [byteOf x 0, byteOf x 1]

/-- The three bytes of a 17-bit field. -/
def bytesOf17 (x : BitVec 17) : List Byte := [byteOf x 0, byteOf x 1, byteOf x 2]

/-- The byte of the two 1-bit flags of `VIDEO_CYCLE`. -/
def byteOfFlags (showBackground showSprites : Bool) : Byte :=
  (if showBackground then 1 else 0) + (if showSprites then 2 else 0)

/-- What an absent row means for the variant's port: refuse, 20 R52. -/
def rowOrError (i : Option Instr) : Except DecodeError Instr :=
  match i with
  | some i => .ok i
  | none => .error .noRow

/-- The decode of a transaction that needs the loaded cartridge's variant. -/
def decodeFor (v : Option Variant) (k : Variant → Except DecodeError Instr) : Except DecodeError Instr :=
  match v with
  | none => .error .noCartridge
  | some v => k v

/-- The decode of a video-port read or write: the address check of 60 R267, then 30 R82. -/
def decodeVideo (p : Params) (v : Option Variant) (f : Format) (a : Addr) (d : Byte) : Except DecodeError Instr :=
  decodeFor v fun v => if within 0x0000 0x1FFF a then rowOrError (mapperRow p v f a d) else .error .badVideoAddress

/-- The decoder: the instruction that a request is, for the variant of the loaded cartridge (none: no cartridge). -/
def decode (p : Params) (v : Option Variant) (r : Request) : Except DecodeError Instr :=
  match r.format, r.operands with
  | .busRead, [a0, a1] => .ok (busReadRow p (fieldOf16 a0 a1))
  | .busWrite, [a0, a1, d] => .ok (busWriteRow p (fieldOf16 a0 a1) d)
  | .vidRead, [a0, a1] => decodeVideo p v .vidRead (fieldOf16 a0 a1) 0
  | .vidWrite, [a0, a1, d] => decodeVideo p v .vidWrite (fieldOf16 a0 a1) d
  | .cpuRead, [a0, a1] => decodeFor v fun v => rowOrError (mapperRow p v .cpuRead (fieldOf16 a0 a1) 0)
  | .cpuWrite, [a0, a1, d] => decodeFor v fun v => rowOrError (mapperRow p v .cpuWrite (fieldOf16 a0 a1) d)
  | .videoCycle, [s0, s1, c0, c1, flags] =>
    if flags.toNat < 4 then
      decodeFor v fun v =>
        .ok (videoCycleRow v (fieldOf16 s0 s1) (fieldOf16 c0 c1) (flags.getLsbD 0) (flags.getLsbD 1))
    else .error .badOperands
  | .configureMirror, [b0, b1, r0, r1, r2, e0, e1, e2] =>
    match fieldOf17 r0 r1 r2, fieldOf17 e0 e1 e2 with
    | some regionSize, some extent => .ok (.mirror (fieldOf16 b0 b1) regionSize extent)
    | _, _ => .error .badOperands
  | .resetConfiguration, [] => .ok .resetcfg
  | .wipe, [] => .ok .wipe
  | .load, image => .ok (.load image)
  | .unload, [] => .ok .unload
  | .saveLoad, bytes => .ok (.saveload bytes)
  | .saveDump, [] => .ok .savedump
  | .name, [] => .ok .name
  | _, _ => .error .badOperands

/-- The operand bytes of a row with an address and no data. -/
def addrRequest (f : Format) (a : Addr) : Request := ⟨f, bytesOf16 a⟩

/-- The operand bytes of a row with an address and data. -/
def dataRequest (f : Format) (a : Addr) (d : Byte) : Request := ⟨f, bytesOf16 a ++ [d]⟩

/-- The operand bytes of a `VIDEO_CYCLE` row. -/
def cycleRequest (scanline cycle : BitVec 16) (showBackground showSprites : Bool) : Request :=
  ⟨.videoCycle, bytesOf16 scanline ++ bytesOf16 cycle ++ [byteOfFlags showBackground showSprites]⟩

/-- The encoder: an instruction as the request that a caller issues for it (30 R72 to R89). -/
def encode : Instr → Request
  | .busRLocal a => addrRequest .busRead a
  | .busWLocal a d => dataRequest .busWrite a d
  | .busRCart a => addrRequest .busRead a
  | .busWCart a d => dataRequest .busWrite a d
  | .mirror b r e => ⟨.configureMirror, bytesOf16 b ++ bytesOf17 r ++ bytesOf17 e⟩
  | .resetcfg => ⟨.resetConfiguration, []⟩
  | .wipe => ⟨.wipe, []⟩
  | .load image => ⟨.load, image⟩
  | .unload => ⟨.unload, []⟩
  | .saveload bytes => ⟨.saveLoad, bytes⟩
  | .savedump => ⟨.saveDump, []⟩
  | .name => ⟨.name, []⟩
  | .genWUnmapped a d => dataRequest .cpuWrite a d
  | .genRUnmapped a => addrRequest .cpuRead a
  | .genRPrgram6000 a => addrRequest .cpuRead a
  | .genWPrgram6000 a d => dataRequest .cpuWrite a d
  | .genVrChr8fixed a => addrRequest .vidRead a
  | .genVwChr8fixed a d => dataRequest .vidWrite a d
  | .genVcNop sl cy bg sp => cycleRequest sl cy bg sp
  | .mmc5WPrgmode d => dataRequest .cpuWrite 0x5100 d
  | .mmc5WChrmode d => dataRequest .cpuWrite 0x5101 d
  | .mmc5WProtect1 d => dataRequest .cpuWrite 0x5102 d
  | .mmc5WProtect2 d => dataRequest .cpuWrite 0x5103 d
  | .mmc5WExrammode d => dataRequest .cpuWrite 0x5104 d
  | .mmc5WNtmap d => dataRequest .cpuWrite 0x5105 d
  | .mmc5WFilltile d => dataRequest .cpuWrite 0x5106 d
  | .mmc5WFillattr d => dataRequest .cpuWrite 0x5107 d
  | .mmc5WPrgrambank d => dataRequest .cpuWrite 0x5113 d
  | .mmc5WPrgbank0 d => dataRequest .cpuWrite 0x5114 d
  | .mmc5WPrgbank1 d => dataRequest .cpuWrite 0x5115 d
  | .mmc5WPrgbank2 d => dataRequest .cpuWrite 0x5116 d
  | .mmc5WPrgbank3 d => dataRequest .cpuWrite 0x5117 d
  | .mmc5WChrupper d => dataRequest .cpuWrite 0x5130 d
  | .mmc5WMult1 d => dataRequest .cpuWrite 0x5205 d
  | .mmc5WMult2 d => dataRequest .cpuWrite 0x5206 d
  | .mmc5WChra i d => dataRequest .cpuWrite (0x5120 ||| i.setWidth 16) d
  | .mmc5WChrb i d => dataRequest .cpuWrite (0x5128 ||| i.setWidth 16) d
  | .mmc5WExram a d => dataRequest .cpuWrite a d
  | .mmc5WPrgram6000 a d => dataRequest .cpuWrite a d
  | .mmc5WPrg a d => dataRequest .cpuWrite a d
  | .mmc5RProdlo => addrRequest .cpuRead 0x5205
  | .mmc5RProdhi => addrRequest .cpuRead 0x5206
  | .mmc5RExram a => addrRequest .cpuRead a
  | .mmc5RPrgram6000 a => addrRequest .cpuRead a
  | .mmc5RPrg a => addrRequest .cpuRead a
  | .mmc5VrChr a => addrRequest .vidRead a
  | .mmc5VwChr a d => dataRequest .vidWrite a d
  | .mmc5Vc sl cy bg sp => cycleRequest sl cy bg sp
  | .nromRPrg a => addrRequest .cpuRead a
  | .nromWPrg a d => dataRequest .cpuWrite a d
  | .uxromRPrg a => addrRequest .cpuRead a
  | .uxromWBank a d => dataRequest .cpuWrite a d
  | .cnromWBank a d => dataRequest .cpuWrite a d
  | .cnromVrChr a => addrRequest .vidRead a
  | .cnromVwChr a d => dataRequest .vidWrite a d
  | .axromRPrg a => addrRequest .cpuRead a
  | .axromWReg a d => dataRequest .cpuWrite a d
  | .cdRPrg a => addrRequest .cpuRead a
  | .cdWReg a d => dataRequest .cpuWrite a d
  | .cdVrChr a => addrRequest .vidRead a
  | .cdVwChr a d => dataRequest .vidWrite a d
  | .cpromWReg a d => dataRequest .cpuWrite a d
  | .cpromVrChr a => addrRequest .vidRead a
  | .cpromVwChr a d => dataRequest .vidWrite a d
  | .m15WReg a d => dataRequest .cpuWrite a d
  | .m15RPrg a => addrRequest .cpuRead a
  | .m15VwChr a d => dataRequest .vidWrite a d
  | .gxRPrg a => addrRequest .cpuRead a
  | .gxWReg a d => dataRequest .cpuWrite a d
  | .gxVrChr a => addrRequest .vidRead a
  | .gxVwChr a d => dataRequest .vidWrite a d
  | .c71RPrg a => addrRequest .cpuRead a
  | .c71WMirror a d => dataRequest .cpuWrite a d
  | .c71WRom a d => dataRequest .cpuWrite a d
  | .c71WBank a d => dataRequest .cpuWrite a d
  | .mmc1WSerial a d => dataRequest .cpuWrite a d
  | .mmc1RPrg a => addrRequest .cpuRead a
  | .mmc1RPrgram a => addrRequest .cpuRead a
  | .mmc1WPrgram a d => dataRequest .cpuWrite a d
  | .mmc1VrChr a => addrRequest .vidRead a
  | .mmc1VwChr a d => dataRequest .vidWrite a d
  | .mmc24WRom a d => dataRequest .cpuWrite a d
  | .mmc24WPrgsel a d => dataRequest .cpuWrite a d
  | .mmc24WChr0fd a d => dataRequest .cpuWrite a d
  | .mmc24WChr0fe a d => dataRequest .cpuWrite a d
  | .mmc24WChr1fd a d => dataRequest .cpuWrite a d
  | .mmc24WChr1fe a d => dataRequest .cpuWrite a d
  | .mmc24WMirror a d => dataRequest .cpuWrite a d
  | .mmc2RPrg a => addrRequest .cpuRead a
  | .mmc4RPrg a => addrRequest .cpuRead a
  | .mmc2VrChr a => addrRequest .vidRead a
  | .mmc4VrChr a => addrRequest .vidRead a
  | .mmc24VwChr a d => dataRequest .vidWrite a d
  | .mmc3RPrgram a => addrRequest .cpuRead a
  | .mmc3WPrgram a d => dataRequest .cpuWrite a d
  | .mmc3RPrg a => addrRequest .cpuRead a
  | .mmc3WBankselect a d => dataRequest .cpuWrite a d
  | .mmc3WBankdata a d => dataRequest .cpuWrite a d
  | .mmc3WMirror a d => dataRequest .cpuWrite a d
  | .mmc3WRamprotect a d => dataRequest .cpuWrite a d
  | .mmc3WIrqlatch a d => dataRequest .cpuWrite a d
  | .mmc3WIrqreload a d => dataRequest .cpuWrite a d
  | .mmc3WIrqdisable a d => dataRequest .cpuWrite a d
  | .mmc3WIrqenable a d => dataRequest .cpuWrite a d
  | .mmc3VrChr a => addrRequest .vidRead a
  | .mmc3VwChr a d => dataRequest .vidWrite a d
  | .mmc3Vc sl cy bg sp => cycleRequest sl cy bg sp

/-- The address that a request carries in its first two operand bytes. -/
def Request.addr (r : Request) : Addr :=
  match r.operands with
  | a0 :: a1 :: _ => fieldOf16 a0 a1
  | _ => 0

/-- The variant decodes the row here: the row is a bus or host row, or one of the variant's at an address that the mapper
receives (20 R50), and a default row only where no other row of the variant and format covers the address (30 R82). -/
def decodesFor (p : Params) (v : Variant) (i : Instr) : Bool :=
  match i with
  | .genRUnmapped a => (findRow v .cpuRead a).isNone
  | .genWUnmapped a _ => (findRow v .cpuWrite a).isNone
  | i => i.variants.isEmpty || i.variants.contains v && !belowCart p i.format (encode i).addr

/-- How many operand bytes a format of fixed length has (log 1). -/
def operandLength : Format → Nat
  | .busRead => 2
  | .busWrite => 3
  | .vidRead => 2
  | .vidWrite => 3
  | .cpuRead => 2
  | .cpuWrite => 3
  | .videoCycle => 5
  | .configureMirror => 8
  | _ => 0

/-- The first `n` bytes of a number, least significant first. -/
def bytesOfNat : Nat → Nat → List Byte
  | 0, _ => []
  | n + 1, w => BitVec.ofNat 8 w :: bytesOfNat n (w / 256)

/-- The row whose `match` column is exactly the address, among a variant's `CPU_WRITE` rows. -/
def exactRow (a : Addr) (v : Variant) : Bool := (findRow v .cpuWrite a).any fun r => r.matchBits == a

/-- The call and the variant under which a word of the opcode table is read. The table's words are addresses: they hold
neither the format nor the variant that 30 R82 decodes by, so the model takes a bus read below `CART_BASE`, else the
first of three variants whose `CPU_WRITE` row has this address as its `match`, else a bus read. DESIGN CHOICE, log 12. -/
def tableContext (p : Params) (a : Addr) : Format × Variant :=
  if a.toNat < p.cartBase then (.busRead, .mmc5)
  else
    match [Variant.mmc2, .mmc3, .mmc5].find? (exactRow a) with
    | some v => (.cpuWrite, v)
    | none => (.busRead, .mmc5)

/-- The request that a word of the opcode table is: its bits from 0 up are the operand bytes, the bits above `nbits` 0. -/
def tableRequest (p : Params) (nbits w : Nat) : Request :=
  let f := (tableContext p (BitVec.ofNat 16 (w % 2 ^ nbits))).1
  ⟨f, bytesOfNat (operandLength f) (w % 2 ^ nbits)⟩

/-- The variant under which `tableRequest` is decoded. -/
def tableVariant (p : Params) (nbits w : Nat) : Variant := (tableContext p (BitVec.ofNat 16 (w % 2 ^ nbits))).2

/-- The instruction the decoder reads from a word numbered as spec/opcode_table.json numbers it, under the standard
parameters (log 12). -/
def decodeTableWord (nbits w : Nat) : Option Instr :=
  let p := Params.standard
  (decode p (some (tableVariant p nbits w)) (tableRequest p nbits w)).toOption

end Sys2Proof
end

