-- ==== Sys2Proof/Machine/State.lean ====
section
/-! DEFINITION. Everything the spec gives the block to hold (10 R19 to R47), its outputs (10 R34 to R37, 30 R72), the
reasons a step can stop, and the state at power-on (70 R284). Plain data; operations on it stand in Ops.lean. -/

namespace Sys2Proof.Machine

/-- What the bytes of an array are that no cell lists (log 9). -/
inductive Fill where
  /-- every byte is this one: `WIPE` (41 R129), CHR-RAM at load (40 R103) -/
  | const (b : Byte)
  /-- the bytes of this sequence: an image's data (40 R102, R103), the bytes of `SAVE_LOAD` (40 R113) -/
  | data (bytes : List Byte)
  /-- every byte a draw of this group: the bytes that nothing has written (10 R22, R29, R38; log 5, log 6) -/
  | free (tag : Nat)
deriving DecidableEq, Repr

/-- A byte array of 20 R53: the bytes that differ from its fill, addresses strictly rising. A byte whose fill is a draw
differs from it once it is written. `Memory.wf` (Ops.lean) is this form; log 9. -/
structure Memory where
  fill : Fill
  cells : List Host.Cell
deriving DecidableEq, Repr

/-- A mirror region, 10 R23. -/
structure MirrorRegion where
  sourceBase : Nat
  regionSize : Nat
  mirroredExtent : Nat
deriving DecidableEq, Repr

/-- `mirrorMode`, 10 R31. -/
inductive MirrorMode where
  | horizontal
  | vertical
  | singleScreen
  | fourScreen
deriving DecidableEq, Repr

/-- A `MirrorChanged(mode, page)` event, 10 R37. -/
structure MirrorEvent where
  mode : MirrorMode
  page : BitVec 1
deriving DecidableEq, Repr

/-- `lastChrSet`, 10 R38. -/
inductive ChrSet where
  | a
  | b
deriving DecidableEq, Repr

/-- `latch0` and `latch1`, 10 R45. -/
inductive Latch where
  | fd
  | fe
deriving DecidableEq, Repr

/-- The representative chip's state, 10 R38. -/
structure Mmc5 where
  prgMode : BitVec 2
  chrMode : BitVec 2
  protect1 : BitVec 2
  protect2 : BitVec 2
  exramMode : BitVec 2
  ntSelect : Vector (BitVec 2) 4
  fillTile : Byte
  fillAttr : BitVec 2
  prgRamBank : BitVec 7
  prgBank : Vector Byte 4
  chrA : Vector (BitVec 10) 8
  chrB : Vector (BitVec 10) 4
  chrUpper : BitVec 2
  lastChrSet : ChrSet
  factor1 : Byte
  factor2 : Byte
  product : BitVec 16
  exRam : Memory
  videoActive : Bool
deriving DecidableEq, Repr

/-- MMC1 state, 10 R44. -/
structure Mmc1 where
  shiftValue : BitVec 5
  shiftCount : Fin 5
  control : BitVec 5
  chr0 : BitVec 5
  chr1 : BitVec 5
  prg : BitVec 5
deriving DecidableEq, Repr

/-- MMC2 and MMC4 state, 10 R45. -/
structure Mmc24 where
  prgSel : Byte
  chr0FD : Byte
  chr0FE : Byte
  chr1FD : Byte
  chr1FE : Byte
  latch0 : Latch
  latch1 : Latch
deriving DecidableEq, Repr

/-- MMC3 state, 10 R46; `regs` is the spec's `R[0..7]`. -/
structure Mmc3 where
  bankSelect : Byte
  regs : Vector Byte 8
  ramEnable : Bool
  ramDeny : Bool
  irqLatch : Byte
  irqCounter : Byte
  irqReload : Bool
  irqEnabled : Bool
  irqPending : Bool
deriving DecidableEq, Repr

/-- The mapper of the loaded cartridge: its constructor is the variant (10 R33), its arguments the registers (10 R42 to
R46). -/
inductive Mapper where
  | nrom
  | uxrom (uxBank : Byte)
  | cnrom (cnBank : Byte)
  | axrom (axReg : Byte)
  | colorDreams (cdReg : Byte)
  | cprom (cpReg : Byte)
  | m15 (m15Reg : Byte) (m15Mode : BitVec 2)
  | gxrom (gxReg : Byte)
  | camerica71 (c71Bank : Byte)
  | mmc1 (r : Mmc1)
  | mmc2 (r : Mmc24)
  | mmc4 (r : Mmc24)
  | mmc3 (r : Mmc3)
  | mmc5 (r : Mmc5)
deriving DecidableEq, Repr

/-- A loaded cartridge, 10 R26 to R33. `chrIsRam` (R28), the array lengths (R26, R27) and `variant` (R33) are computed
from these fields (Flags.lean, Ops.lean; log 13). -/
structure Cartridge where
  prgBanks : Nat
  chrBanks : Nat
  prgRom : Memory
  chr : Memory
  prgRam : Memory
  batteryPresent : Bool
  mirrorMode : MirrorMode
  singleScreenPage : BitVec 1
  fourScreenLocked : Bool
  mapper : Mapper
deriving DecidableEq, Repr

/-- The `reason` of a `FormatError`, 60 R259. -/
inductive FormatReason where
  | len
  | magic
  | prgBanks
deriving DecidableEq, Repr

/-- The errors of 60 R259 with their records. -/
inductive Error where
  | format (reason : FormatReason)
  | unsupportedMapper (mapperId : Byte)
  | illegalWrite (addr : Addr) (data : Byte)
  | writeProtected (addr : Addr) (data : Byte)
  /-- raised by no rule (60 R263); log 14 -/
  | invalidMode (register : String) (value : Nat)
  | mirrorConfig (regionSize : Nat)
deriving DecidableEq, Repr

/-- What a transaction returns, 30 R72; log 3. -/
inductive Result where
  /-- nothing: `VIDEO_CYCLE`, and before the first transaction -/
  | nothing
  | ok
  | data (b : Byte)
  | bytes (bs : List Byte)
  | name (text : String)
  | error (e : Error)
deriving DecidableEq, Repr

/-- Why the machine could stop with a fault. -/
inductive Fault where
  /-- An internal mode register outside its 2-bit range (60 R263). Raised by no meaning: every mode field is typed with
  its 2 bits (10 R39). Safe: it can stop nothing. Log 14. -/
  | invalidMode
deriving DecidableEq, Repr

/-- Why a transaction has no step (60 R267, R268). -/
inductive Refusal where
  /-- Raised by exec for an instruction that has no meaning yet. Safe. -/
  | notModelled (mnemonic : String)
  /-- `Faulted`: every transaction while a fault is recorded (60 R267, 41 R130). Safe: the spec gives it no step. -/
  | faulted
  /-- `NoCartridge`: a mapper, save or name transaction with no cartridge (60 R267). Safe: the spec gives it no step. -/
  | noCartridge
  /-- `BadVideoAddress`: a video read or write outside 0x0000..0x1FFF (60 R267). Safe: the spec gives it no step. -/
  | badVideoAddress
  /-- `NoBattery`: a save hook without a battery (60 R267). Safe: the spec gives it no step. -/
  | noBattery
  /-- `BadSaveLength`: `SAVE_LOAD` with another length than the program RAM's (60 R267). Safe: the spec gives it no step. -/
  | badSaveLength
  /-- The decode of 30 R82 and R83 does not select this row here: another variant is loaded, or the address is not one of
  the row's. Raised by a meaning that is asked to run for another variant or address than its row's, and by step for a
  mapper address below `CART_BASE` (20 R52). Safe: no such transaction exists. Log 10. -/
  | rowNotSelected
  /-- The operand bytes of a request are not the fields of its format (30 R72). Raised by step only. Safe: no such
  transaction exists. Log 10. -/
  | malformedRequest
deriving DecidableEq, Repr

/-- The state of the block. -/
structure State where
  /-- the parameters, which no transaction writes (00 R11, 10 R19; log 7, log 8) -/
  params : Params
  /-- `Store`, 10 R22 -/
  store : Memory
  /-- `Mirrors`, oldest first, 10 R23 -/
  mirrors : List MirrorRegion
  /-- `cart`, 10 R24 -/
  cart : Option Cartridge
  /-- `fault`, 10 R25 -/
  fault : Option Error
  /-- the transactions issued and not yet run, oldest first; the model's own, log 2 -/
  pending : List Request
  /-- what the last transaction returned, 30 R72; log 3 -/
  result : Result
  /-- the `MirrorChanged` events emitted so far, oldest first, 10 R37; log 4 -/
  events : List MirrorEvent
  /-- how many groups of draws are used; the model's own, log 5 -/
  draws : Nat
deriving DecidableEq, Repr

/-- Power-on of a block with the parameters `p`, 70 R284. `Store` is a draw in every byte (group 0; log 6). DESIGN CHOICE:
`result` (log 3), `pending` (log 2), `draws` (log 5). -/
def State.powerOn (p : Params) : State where
  params := p
  store := ⟨.free 0, []⟩
  mirrors := []
  cart := none
  fault := none
  pending := []
  result := .nothing
  events := []
  draws := 1

/-- Power-on with the values that 00 R11 gives the parameters (log 7, log 8). -/
def State.reset : State := State.powerOn Params.standard

end Sys2Proof.Machine
end

