-- ==== Sys2Proof/Machine/Ops.lean ====
section
/-! DEFINITION. The named operations over memory, registers and outputs that every meaning is written with: byte arrays
(20 R53), the bank-offset calculator (42 R137), the mirroring helper (42 R150), taking an error (60 R262 to R266), and the
refusals that come before a row's own rule (60 R267). -/

namespace Sys2Proof.Machine

/-- What a step answers. -/
abbrev Outcome := Host.Outcome State Fault Refusal

/-! ## Byte arrays -/

/-- The byte that the fill fixes at an index, none where it is a draw. -/
def fillKnown : Fill → Nat → Option Byte
  | .const b, _ => some b
  | .data bytes, i => some (bytes.getD i 0)
  | .free _, _ => none

/-- What an unlisted index reads as: the byte of the fill, or its draw (log 5, log 6, log 9). -/
def fillByte : Fill → Nat → Byte
  | .const b, _ => b
  | .data bytes, i => bytes.getD i 0
  | .free tag, i => Config.freeByte tag i

/-- The byte listed at an index. -/
def lookupCell (i : Nat) : List Host.Cell → Option Byte
  | [] => none
  | (j, b) :: rest => if i = j then some b else lookupCell i rest

/-- List a byte at an index, keeping the indices rising. -/
def insertCell (i : Nat) (v : Byte) : List Host.Cell → List Host.Cell
  | [] => [(i, v)]
  | (j, b) :: rest =>
    if i < j then (i, v) :: (j, b) :: rest
    else if i = j then (i, v) :: rest
    else (j, b) :: insertCell i v rest

/-- Unlist an index. -/
def eraseCell (i : Nat) : List Host.Cell → List Host.Cell
  | [] => []
  | (j, b) :: rest => if i = j then rest else (j, b) :: eraseCell i rest

/-- Read one byte of an array. -/
def Memory.read (m : Memory) (i : Nat) : Byte := (lookupCell i m.cells).getD (fillByte m.fill i)

/-- Write one byte of an array: a byte that the fill already fixes is not listed. -/
def Memory.write (m : Memory) (i : Nat) (v : Byte) : Memory :=
  { m with cells := if fillKnown m.fill i = some v then eraseCell i m.cells else insertCell i v m.cells }

/-- The first `n` bytes of an array, in order. -/
def Memory.dump (m : Memory) (n : Nat) : List Byte := (List.range n).map m.read

/-- The indices rise strictly. -/
def cellsRising : List Host.Cell → Bool
  | [] => true
  | (i, _) :: rest =>
    (match rest with
      | [] => true
      | (j, _) :: _ => decide (i < j)) && cellsRising rest

/-- The canonical form: indices strictly rising, no cell equal to what the fill fixes there (log 9). -/
def Memory.wf (m : Memory) : Bool := cellsRising m.cells && m.cells.all fun c => fillKnown m.fill c.1 != some c.2

/-- Every listed index is one of the array's `n`. -/
def Memory.fits (m : Memory) (n : Nat) : Bool := m.cells.all fun c => decide (c.1 < n)

/-! ## Variants and lengths -/

/-- The diagnostic string, 42 R145 and 92 D29. -/
def variantName : Variant → String
  | .nrom => "NROM"
  | .mmc1 => "MMC1"
  | .uxrom => "UxROM"
  | .cnrom => "CNROM"
  | .mmc3 => "MMC3"
  | .mmc5 => "MMC5"
  | .axrom => "AxROM"
  | .mmc2 => "MMC2"
  | .mmc4 => "MMC4"
  | .colorDreams => "ColorDreams"
  | .cprom => "CPROM"
  | .m15 => "100-in-1"
  | .gxrom => "GxROM"
  | .camerica71 => "Camerica71"

/-- `variant`, 10 R33. -/
def Mapper.variant : Mapper → Variant
  | .nrom => .nrom
  | .uxrom _ => .uxrom
  | .cnrom _ => .cnrom
  | .axrom _ => .axrom
  | .colorDreams _ => .colorDreams
  | .cprom _ => .cprom
  | .m15 _ _ => .m15
  | .gxrom _ => .gxrom
  | .camerica71 _ => .camerica71
  | .mmc1 _ => .mmc1
  | .mmc2 _ => .mmc2
  | .mmc4 _ => .mmc4
  | .mmc3 _ => .mmc3
  | .mmc5 _ => .mmc5

/-- The loaded cartridge's variant. -/
def Cartridge.variant (c : Cartridge) : Variant := c.mapper.variant

/-- The variant of the loaded cartridge, none without one. -/
def State.variant (s : State) : Option Variant := s.cart.map Cartridge.variant

/-- `length(PrgRom)`, 10 R26. -/
def Cartridge.prgLen (c : Cartridge) : Nat := Config.prgBankUnit * c.prgBanks

/-- `length(Chr)`, 10 R27. -/
def Cartridge.chrLen (c : Cartridge) : Nat := Config.chrBankUnit * max 1 c.chrBanks

/-- `length(PrgRam)`, 10 R29. -/
def Cartridge.prgRamLen (c : Cartridge) (p : Params) : Nat := p.prgRamSize c.variant

/-- `chrIsRam`, 10 R28. -/
def Cartridge.chrIsRam (c : Cartridge) : Bool := c.chrBanks == 0

/-! ## The bank-offset calculator -/

/-- `bankOffset(b, S, a, lo, len)`, 42 R137. -/
def bankOffset (b S a lo len : Nat) : Nat :=
  if len / S = 0 then (a - lo) % len else (b % (len / S)) * S + (a - lo) % S

/-- Entry `i` of a register array; the index is one of the array's by every rule that takes it. -/
def pick {α : Type} {n : Nat} (v : Vector α (n + 1)) (i : Nat) : α := v[i % (n + 1)]'(Nat.mod_lt _ (Nat.succ_pos n))

/-- The array with entry `i` replaced. -/
def poke {α : Type} {n : Nat} (v : Vector α (n + 1)) (i : Nat) (x : α) : Vector α (n + 1) :=
  v.set (i % (n + 1)) x (Nat.mod_lt _ (Nat.succ_pos n))

/-- The byte of `PrgRom` that bank `b` of size `S` shows at `a` in the window from `lo`. -/
def Cartridge.romByte (c : Cartridge) (b S a lo : Nat) : Byte := c.prgRom.read (bankOffset b S a lo c.prgLen)

/-- The index into `PrgRam` that bank `b` of size `S` gives at `a` in the window from `lo`. -/
def Cartridge.ramIndex (c : Cartridge) (p : Params) (b S a lo : Nat) : Nat := bankOffset b S a lo (c.prgRamLen p)

/-- The index into `Chr` that bank `b` of size `S` gives at `a` in the window from `lo`. -/
def Cartridge.chrIndex (c : Cartridge) (b S a lo : Nat) : Nat := bankOffset b S a lo c.chrLen

/-! ## Effects on the state -/

/-- The transaction's result, 30 R72. -/
def State.finish (s : State) (r : Result) : State := { s with result := r }

/-- The cartridge after the transaction. -/
def State.setCart (s : State) (c : Cartridge) : State := { s with cart := some c }

/-- The cartridge with other mapper registers. -/
def Cartridge.setMapper (c : Cartridge) (m : Mapper) : Cartridge := { c with mapper := m }

/-- Store a mapper register and answer `ok`. -/
def State.putRegs (s : State) (c : Cartridge) (m : Mapper) : State := (s.setCart (c.setMapper m)).finish .ok

/-- Answer a byte. -/
def State.answer (s : State) (b : Byte) : State := s.finish (.data b)

/-- `OpenBus()`: the result is a draw (42 R142, 92 D9); FREE VALUE, log 5. -/
def State.openBus (s : State) : State :=
  { s with result := .data (Config.freeByte s.draws 0), draws := s.draws + 1 }

/-- Whether an error is recorded in `fault`: 60 R264 and R265 for access errors, R263 for `InvalidModeError`, R266 for
load and host errors. -/
def errorRecorded (p : ErrorPolicy) : Error → Bool
  | .format _ => false
  | .unsupportedMapper _ => false
  | .mirrorConfig _ => false
  | .invalidMode _ _ => true
  | .illegalWrite _ _ => p == .strict
  | .writeProtected _ _ => p == .strict

/-- TAKING AN ERROR, the block's one exception operation (60 R262, R264 to R266, R271): the error is the result, it is
recorded in `fault` where the policy says so, and nothing else changes. There is no return from it (60 R273). -/
def State.raise (s : State) (e : Error) : State :=
  { s with result := .error e, fault := if errorRecorded s.params.policy e then some e else s.fault }

/-- The numeric code of an error, 60 R259 (92 D8). -/
def errorCode : Error → Nat
  | .format _ => 1
  | .unsupportedMapper _ => 2
  | .illegalWrite _ _ => 3
  | .writeProtected _ _ => 4
  | .invalidMode _ _ => 5
  | .mirrorConfig _ => 6

/-- The page that `setMirror` stores: 0 for a mode other than `SINGLE_SCREEN` (42 R150). -/
def pageFor (mode : MirrorMode) (page : BitVec 1) : BitVec 1 := if mode = .singleScreen then page else 0

/-- `setMirror(mode, page)`, 42 R150, on the cartridge `c` about to be stored: the state with `c` stored, its mirroring
changed unless locked, and the event emitted when the pair changes. -/
def State.setMirror (s : State) (c : Cartridge) (mode : MirrorMode) (page : BitVec 1) : State :=
  if c.fourScreenLocked then s.setCart c
  else if mode = c.mirrorMode ∧ pageFor mode page = c.singleScreenPage then s.setCart c
  else
    { s with
      cart := some { c with mirrorMode := mode, singleScreenPage := pageFor mode page }
      events := s.events ++ [⟨mode, pageFor mode page⟩] }

/-- Write a byte of `PrgRam` and answer `ok`. -/
def State.writeRam (s : State) (c : Cartridge) (off : Nat) (d : Byte) : State :=
  (s.setCart { c with prgRam := c.prgRam.write off d }).finish .ok

/-- `chrWrite(a, off, d)`, 42 R147. -/
def State.chrWrite (s : State) (c : Cartridge) (a : Addr) (off : Nat) (d : Byte) : State :=
  if c.chrIsRam then (s.setCart { c with chr := c.chr.write off d }).finish .ok else s.raise (.illegalWrite a d)

/-! ## Refusals before a row's rule -/

/-- Run a transaction that needs no cartridge, unless a fault is recorded (60 R267). -/
def State.onHost (s : State) (k : State) : Outcome :=
  match s.fault with
  | some _ => .refused .faulted
  | none => .next k

/-- Run a transaction on the loaded cartridge: `Faulted`, `NoCartridge`, then the transaction's own refusals, in the order
of 60 R267; `sel` gives what the rule reads of the cartridge. -/
def State.onCart {α : Type} (s : State) (sel : Cartridge → Except Refusal α) (k : Cartridge → α → State) : Outcome :=
  match s.fault with
  | some _ => .refused .faulted
  | none =>
    match s.cart with
    | none => .refused .noCartridge
    | some c =>
      match sel c with
      | .error r => .refused r
      | .ok x => .next (k c x)

/-- The address test of a CPU row: `addr_lo ≤ a ≤ addr_hi` (30 R82). -/
def cpuAddr (lo hi : Nat) (a : Addr) : Option Refusal := if within lo hi a then none else some .rowNotSelected

/-- The address test of an MMC3 register row: the range and the parity that the mask 0xE001 tests (30 R89). -/
def parityAddr (lo hi parity : Nat) (a : Addr) : Option Refusal :=
  if within lo hi a && a.toNat % 2 == parity then none else some .rowNotSelected

/-- The address test of the video port: `BadVideoAddress` outside 0x0000..0x1FFF (60 R267). -/
def videoAddr (a : Addr) : Option Refusal := if within 0x0000 0x1FFF a then none else some .badVideoAddress

/-- The decode of 30 R82 as a row sees it: its address test, then its variant; `regs` reads the row's registers of the
loaded mapper, none where the mapper is not a variant of the row. -/
def rowSel {α : Type} (addr : Option Refusal) (regs : Mapper → Option α) (c : Cartridge) : Except Refusal α :=
  match addr with
  | some r => .error r
  | none =>
    match regs c.mapper with
    | none => .error .rowNotSelected
    | some x => .ok x

/-- Run a mapper row. -/
def State.onRow {α : Type} (s : State) (addr : Option Refusal) (regs : Mapper → Option α)
    (k : Cartridge → α → State) : Outcome :=
  s.onCart (rowSel addr regs) k

/-- The refusal that a request without an instruction meets (60 R267, R268, 20 R52; log 10). -/
def refusalOf : DecodeError → Refusal
  | .noCartridge => .noCartridge
  | .badVideoAddress => .badVideoAddress
  | .noRow => .rowNotSelected
  | .badOperands => .malformedRequest

/-- Refuse a request without an instruction: `Faulted` first (60 R267). -/
def State.refuse (s : State) (e : DecodeError) : Outcome :=
  match s.fault with
  | some _ => .refused .faulted
  | none => .refused (refusalOf e)

end Sys2Proof.Machine
end

