-- ==== Sys2Proof/Machine/Operands.lean ====
section
/-! DEFINITION. The operand forms: which registers each variant's rows read, and the index into `PrgRom`, `PrgRam` or
`Chr` that an address selects (42 R137, R138; 44 R173, R182; 45; 46). Addresses are naturals here. -/

namespace Sys2Proof.Machine

/-! ## The registers a row reads -/

/-- A row of several variants that reads no register of theirs. -/
def ofVariants (vs : List Variant) (m : Mapper) : Option Unit := if vs.contains m.variant then some () else none

/-- A default row: no other row of the variant and format covers the address (30 R82). -/
def ofDefault (f : Format) (a : Addr) (m : Mapper) : Option Unit := if (findRow m.variant f a).isNone then some () else none

def asUxrom : Mapper → Option Byte
  | .uxrom b => some b
  | _ => none

def asCnrom : Mapper → Option Byte
  | .cnrom b => some b
  | _ => none

def asAxrom : Mapper → Option Byte
  | .axrom b => some b
  | _ => none

def asColorDreams : Mapper → Option Byte
  | .colorDreams b => some b
  | _ => none

def asCprom : Mapper → Option Byte
  | .cprom b => some b
  | _ => none

/-- `(m15Reg, m15Mode)`. -/
def asM15 : Mapper → Option (Byte × BitVec 2)
  | .m15 r m => some (r, m)
  | _ => none

def asGxrom : Mapper → Option Byte
  | .gxrom b => some b
  | _ => none

def asCamerica71 : Mapper → Option Byte
  | .camerica71 b => some b
  | _ => none

def asMmc1 : Mapper → Option Mmc1
  | .mmc1 r => some r
  | _ => none

def asMmc2 : Mapper → Option Mmc24
  | .mmc2 r => some r
  | _ => none

def asMmc4 : Mapper → Option Mmc24
  | .mmc4 r => some r
  | _ => none

/-- The registers of MMC2 or MMC4, which share their register rows (30 R88). -/
def asMmc24 : Mapper → Option Mmc24
  | .mmc2 r => some r
  | .mmc4 r => some r
  | _ => none

/-- The same mapper with other MMC2/MMC4 registers. -/
def withMmc24 (m : Mapper) (r : Mmc24) : Mapper :=
  match m with
  | .mmc2 _ => .mmc2 r
  | .mmc4 _ => .mmc4 r
  | m => m

def asMmc3 : Mapper → Option Mmc3
  | .mmc3 r => some r
  | _ => none

def asMmc5 : Mapper → Option Mmc5
  | .mmc5 r => some r
  | _ => none

/-! ## Windows shared by several variants -/

/-- `count16 := length(PrgRom) div 16384` (45, conventions). -/
def Cartridge.count16 (c : Cartridge) : Nat := c.prgLen / 16384

/-- `count8 := length(PrgRom) div 8192` (46, conventions). -/
def Cartridge.count8 (c : Cartridge) : Nat := c.prgLen / 8192

/-- A 16K bank at 0x8000 and the last 16K bank at 0xC000: UxROM R192, Camerica 71 R214, MMC4 R237. -/
def Cartridge.lowBankHighFixed (c : Cartridge) (b a : Nat) : Byte :=
  if a < 0xC000 then c.romByte b 16384 a 0x8000 else c.romByte (c.count16 - 1) 16384 a 0xC000

/-- The 8K `PrgRam` window at 0x6000, 42 R143. -/
def Cartridge.ram6000 (c : Cartridge) (p : Params) (bank a : Nat) : Nat := c.ramIndex p bank 8192 a 0x6000

/-- The base of the 16K half of 0x8000..0xFFFF that holds `a`. -/
def half16 (a : Nat) : Nat := if a < 0xC000 then 0x8000 else 0xC000

/-- The 8K quarter, 0 to 3, of 0x8000..0xFFFF that holds `a`. -/
def quarter (a : Nat) : Nat := (a - 0x8000) / 8192

/-! ## MMC5 -/

/-- What `prgWindow` gives, 44 R173. -/
structure PrgWindow where
  reg : Byte
  size : Nat
  lo : Nat
  rom : Bool
deriving DecidableEq, Repr

/-- `prgWindow(a)`, 44 R173. -/
def prgWindow (r : Mmc5) (a : Nat) : PrgWindow :=
  let p := r.prgBank
  if r.prgMode = 0 then ⟨p[3], 32768, 0x8000, true⟩
  else if r.prgMode = 1 then
    if a < 0xC000 then ⟨p[1], 16384, 0x8000, p[1].getLsbD 7⟩ else ⟨p[3], 16384, 0xC000, true⟩
  else if r.prgMode = 2 then
    if a < 0xC000 then ⟨p[1], 16384, 0x8000, p[1].getLsbD 7⟩
    else if a < 0xE000 then ⟨p[2], 8192, 0xC000, p[2].getLsbD 7⟩
    else ⟨p[3], 8192, 0xE000, true⟩
  else if quarter a = 3 then ⟨p[3], 8192, 0x8000 + 8192 * quarter a, true⟩
  else ⟨pick p (quarter a), 8192, 0x8000 + 8192 * quarter a, (pick p (quarter a)).getLsbD 7⟩

/-- `bank(reg, S) := reg[6:0] >> log2(S / 8192)`, 44 R173 and 42 R138. -/
def bankIn8K (reg : Byte) (size : Nat) : Nat := (reg.setWidth 7).toNat / (size / 8192)

/-- The index that a program window gives into an array of `len` bytes, 44 R176. -/
def windowIndex (w : PrgWindow) (a len : Nat) : Nat := bankOffset (bankIn8K w.reg w.size) w.size a w.lo len

/-- `chrBankSize`, 44 R181. -/
def chrBankSize (r : Mmc5) : Nat := 8192 >>> r.chrMode.toNat

/-- `chrBankCount`, 44 R181 and 10 R41. -/
def chrBankCount (c : Cartridge) (r : Mmc5) : Nat := c.chrLen / chrBankSize r

/-- `chrSelect(a)`: the bank register and the window base, 44 R182. -/
def chrSelect (r : Mmc5) (a : Nat) : BitVec 10 × Nat :=
  let z := chrBankSize r
  match r.lastChrSet with
  | .a => (pick r.chrA ((a / z + 1) * (z / 1024) - 1), a / z * z)
  | .b =>
    if r.chrMode = 0 then (r.chrB[3], 0x0000)
    else
      (pick r.chrB ((a % 4096 / z + 1) * (z / 1024) - 1), a / 4096 * 4096 + a % 4096 / z * z)

/-- The index into `Chr` of a video access, 44 R183. -/
def mmc5ChrIndex (c : Cartridge) (r : Mmc5) (a : Nat) : Nat :=
  c.chrIndex (chrSelect r a).1.toNat (chrBankSize r) a (chrSelect r a).2

/-- The index into `ExRam`, 44 R186. -/
def exRamIndex (a : Nat) : Nat := a - 0x5C00

/-! ## Simple variants -/

/-- The index into `Chr` of a CPROM video access, 45 R205. -/
def cpromChrIndex (c : Cartridge) (reg : Byte) (a : Nat) : Nat :=
  if a < 0x1000 then c.chrIndex 0 4096 a 0x0000 else c.chrIndex (reg.extractLsb' 0 2).toNat 4096 a 0x1000

/-- `M15.R.PRG`, 45 R208: the byte at `a`, with `B := m15Reg[5:0]` and `p := m15Reg[7]`. -/
def m15PrgByte (c : Cartridge) (reg : Byte) (mode : BitVec 2) (a : Nat) : Byte :=
  let bank := (reg.extractLsb' 0 6).toNat
  let p := (reg.extractLsb' 7 1).toNat
  if mode = 2 then c.romByte (2 * bank + p) 8192 a (0x8000 + 8192 * quarter a)
  else
    let b :=
      if a < 0xC000 then bank
      else if mode = 0 then bank ||| 1
      else if mode = 1 then bank ||| 7
      else bank
    c.romByte b 16384 a (half16 a)

/-! ## MMC1 -/

/-- `MMC1.R.PRG`, 46 R223. -/
def mmc1PrgByte (c : Cartridge) (r : Mmc1) (a : Nat) : Byte :=
  let m := r.control.extractLsb' 2 2
  let k := (r.prg.extractLsb' 0 4).toNat
  if m = 2 then c.romByte (if a < 0xC000 then 0 else k) 16384 a (half16 a)
  else if m = 3 then c.romByte (if a < 0xC000 then k else c.count16 - 1) 16384 a (half16 a)
  else c.romByte (k >>> 1) 32768 a 0x8000

/-- The index into `Chr` of an MMC1 video access, 46 R226. -/
def mmc1ChrIndex (c : Cartridge) (r : Mmc1) (a : Nat) : Nat :=
  if r.control.getLsbD 4 = false then c.chrIndex (r.chr0.toNat >>> 1) 8192 a 0x0000
  else if a < 0x1000 then c.chrIndex r.chr0.toNat 4096 a 0x0000
  else c.chrIndex r.chr1.toNat 4096 a 0x1000

/-- `mmc1Mirror(m)`, 46 R222. -/
def mmc1Mirror (m : BitVec 2) : MirrorMode × BitVec 1 :=
  if m = 0 then (.singleScreen, 0)
  else if m = 1 then (.singleScreen, 1)
  else if m = 2 then (.vertical, 0)
  else (.horizontal, 0)

/-! ## MMC2 and MMC4 -/

/-- `MMC2.R.PRG`, 46 R236; `emod` is the remainder of `Int`. -/
def mmc2PrgByte (c : Cartridge) (r : Mmc24) (a : Nat) : Byte :=
  if a < 0xA000 then c.romByte (r.prgSel.extractLsb' 0 4).toNat 8192 a 0x8000
  else
    let i := (a - 0xA000) / 8192
    c.romByte (((c.count8 : Int) + i - 3) % c.count8).toNat 8192 a (0xA000 + 8192 * i)

/-- `chr24Offset(a)`, 46 R238. -/
def chr24Offset (c : Cartridge) (r : Mmc24) (a : Nat) : Nat :=
  if a < 0x1000 then
    c.chrIndex ((if r.latch0 = .fd then r.chr0FD else r.chr0FE).extractLsb' 0 5).toNat 4096 a 0x0000
  else c.chrIndex ((if r.latch1 = .fd then r.chr1FD else r.chr1FE).extractLsb' 0 5).toNat 4096 a 0x1000

/-- The latches after an MMC2 video read at `a`, 46 R239. -/
def mmc2Latch (r : Mmc24) (a : Nat) : Mmc24 :=
  if a = 0x0FD8 then { r with latch0 := .fd }
  else if a = 0x0FE8 then { r with latch0 := .fe }
  else if 0x1FD8 ≤ a ∧ a ≤ 0x1FDF then { r with latch1 := .fd }
  else if 0x1FE8 ≤ a ∧ a ≤ 0x1FEF then { r with latch1 := .fe }
  else r

/-- The latches after an MMC4 video read at `a`, 46 R240. -/
def mmc4Latch (r : Mmc24) (a : Nat) : Mmc24 :=
  if 0x0FD8 ≤ a ∧ a ≤ 0x0FDF then { r with latch0 := .fd }
  else if 0x0FE8 ≤ a ∧ a ≤ 0x0FEF then { r with latch0 := .fe }
  else if 0x1FD8 ≤ a ∧ a ≤ 0x1FDF then { r with latch1 := .fd }
  else if 0x1FE8 ≤ a ∧ a ≤ 0x1FEF then { r with latch1 := .fe }
  else r

/-! ## MMC3 -/

/-- `MMC3.R.PRG`, 46 R251: the bank of the 8K quarter `i`. -/
def mmc3PrgBank (c : Cartridge) (r : Mmc3) (i : Nat) : Nat :=
  if i = 0 then (if r.bankSelect.getLsbD 6 then c.count8 - 2 else r.regs[6].toNat)
  else if i = 1 then r.regs[7].toNat
  else if i = 2 then (if r.bankSelect.getLsbD 6 then r.regs[6].toNat else c.count8 - 2)
  else c.count8 - 1

/-- `MMC3.R.PRG`, 46 R251: the byte at `a`. -/
def mmc3PrgByte (c : Cartridge) (r : Mmc3) (a : Nat) : Byte :=
  c.romByte (mmc3PrgBank c r (quarter a)) 8192 a (0x8000 + 8192 * quarter a)

/-- The 1K bank of an MMC3 video access, 46 R252. -/
def mmc3ChrBank (r : Mmc3) (a : Nat) : Nat :=
  let a' := a ^^^ (if r.bankSelect.getLsbD 7 then 0x1000 else 0)
  if a' < 0x1000 then (pick r.regs (a' / 2048) &&& 0xFE).toNat + a' / 1024 % 2
  else (pick r.regs (2 + (a' - 0x1000) / 1024)).toNat

/-- The index into `Chr` of an MMC3 video access, 46 R252. -/
def mmc3ChrIndex (c : Cartridge) (r : Mmc3) (a : Nat) : Nat :=
  c.chrIndex (mmc3ChrBank r a) 1024 a (1024 * (a / 1024))

end Sys2Proof.Machine
end

