-- ==== Sys2Proof/Machine/Flags.lean ====
section
/-! DEFINITION. The block has no status flags of a processor (10 R20). Its one-bit conditions and outputs, computed from
the state: the write-protect latch (43 R155), RAM enables (46 R224, R255), the visible range (44 R188), the counter clock
(46 R254), `irqLine` and the video-side accessors (10 R34 to R36). -/

namespace Sys2Proof.Machine

/-- `ramWritable`, 43 R155; the latch is engaged exactly when it is false. -/
def ramWritable (r : Mmc5) : Bool := r.protect1 == 0b10 && r.protect2 == 0b01

/-- `ExRam` takes a CPU write, 44 R185 and R187. -/
def exRamWritable (r : Mmc5) : Bool :=
  if r.exramMode = 2 then true
  else if r.exramMode = 3 then false
  else r.videoActive

/-- `ExRam` answers a CPU read, 44 R185 and R186. -/
def exRamReadable (r : Mmc5) : Bool := r.exramMode == 2 || r.exramMode == 3

/-- `prg[4]`: MMC1's program RAM is disabled, 46 R224. -/
def mmc1RamDisabled (r : Mmc1) : Bool := r.prg.getLsbD 4

/-- MMC3's program RAM takes a write, 46 R256. -/
def mmc3RamWritable (r : Mmc3) : Bool := r.ramEnable && !r.ramDeny

/-- `VISIBLE_FIRST ≤ scanline ≤ VISIBLE_LAST`, 44 R188; the scanline is signed (92 D48). -/
def visibleScanline (p : Params) (scanline : BitVec 16) : Bool :=
  decide (p.visibleFirst ≤ scanline.toInt) && decide (scanline.toInt ≤ p.visibleLast)

/-- The counter clock condition of 46 R254. -/
def mmc3Clock (p : Params) (scanline cycle : BitVec 16) (showBackground showSprites : Bool) : Bool :=
  cycle.toNat == p.mmc3IrqCycle && (showBackground || showSprites) &&
    (visibleScanline p scanline || decide (scanline.toInt = p.prerenderScanline))

/-- The counter's step at a clock, 46 R254. -/
def mmc3Count (r : Mmc3) : Mmc3 :=
  let counter := if r.irqCounter = 0 ∨ r.irqReload = true then r.irqLatch else r.irqCounter - 1
  { r with
    irqCounter := counter
    irqReload := if r.irqCounter = 0 ∨ r.irqReload = true then false else r.irqReload
    irqPending := r.irqPending || (counter == 0 && r.irqEnabled) }

/-- `irqLine`, 10 R34 and 46 R257. -/
def State.irqLine (s : State) : Bool :=
  match s.cart with
  | some c =>
    match c.mapper with
    | .mmc3 r => r.irqPending
    | _ => false
  | none => false

/-- The representative chip's registers, none for another variant or with no cartridge. -/
def State.mmc5Regs (s : State) : Option Mmc5 := s.cart.bind fun c => asMmc5 c.mapper

/-- The accessor `ntSelect(i)`, 10 R35. -/
def State.ntSelect (s : State) (i : Fin 4) : Option (BitVec 2) := s.mmc5Regs.map fun r => r.ntSelect[i]

/-- The accessor `fillTile`, 10 R35. -/
def State.fillTile (s : State) : Option Byte := s.mmc5Regs.map Mmc5.fillTile

/-- The accessor `fillAttr`, 10 R35. -/
def State.fillAttr (s : State) : Option (BitVec 2) := s.mmc5Regs.map Mmc5.fillAttr

/-- The accessor `mirrorMode`, 10 R36. -/
def State.mirrorMode (s : State) : Option MirrorMode := s.cart.map Cartridge.mirrorMode

/-- The accessor `singleScreenPage`, 10 R36. -/
def State.singleScreenPage (s : State) : Option (BitVec 1) := s.cart.map Cartridge.singleScreenPage

end Sys2Proof.Machine
end

