-- ==== Sys2Proof/Machine/Bus.lean ====
section
/-! DEFINITION. The bus router: mirror resolution (41 R115 to R119), the local transactions (41 R120, R121) and the bus
configuration operations (41 R127 to R129). -/

namespace Sys2Proof.Machine

/-- The region contains the address, 41 R115. -/
def regionHolds (r : MirrorRegion) (a : Nat) : Bool :=
  decide (r.sourceBase ≤ a) && decide (a < r.sourceBase + r.mirroredExtent)

/-- `resolve` over regions given newest first, 41 R115: the first that contains the address decides, once. -/
def resolveIn : List MirrorRegion → Nat → Nat
  | [], a => a
  | r :: rest, a =>
    if regionHolds r a then r.sourceBase + (a - r.sourceBase) % r.regionSize else resolveIn rest a

/-- `resolve(a)`, 41 R115; `Mirrors` is kept oldest first (10 R23). -/
def resolve (mirrors : List MirrorRegion) (a : Nat) : Nat := resolveIn mirrors.reverse a

/-- Run a bus transaction of the local range (30 R83). -/
def State.onLocal (s : State) (a : Addr) (k : State) : Outcome :=
  match s.fault with
  | some _ => .refused .faulted
  | none => if a.toNat < s.params.cartBase then .next k else .refused .rowNotSelected

/-- `BUS.R.LOCAL`, 41 R120. -/
def execBusRLocal (a : Addr) (s : State) : Outcome := s.onLocal a (s.answer (s.store.read (resolve s.mirrors a.toNat)))

/-- `BUS.W.LOCAL`, 41 R121. -/
def execBusWLocal (a : Addr) (d : Byte) (s : State) : Outcome :=
  s.onLocal a (State.finish { s with store := s.store.write (resolve s.mirrors a.toNat) d } .ok)

/-- `CONFIGURE_MIRROR`, 41 R127. -/
def execMirror (base : Addr) (regionSize extent : BitVec 17) (s : State) : Outcome :=
  s.onHost
    (if regionSize = 0 then s.raise (.mirrorConfig regionSize.toNat)
    else State.finish { s with mirrors := s.mirrors ++ [⟨base.toNat, regionSize.toNat, extent.toNat⟩] } .ok)

/-- `RESET_CONFIGURATION`, 41 R128. -/
def execResetcfg (s : State) : Outcome := s.onHost (State.finish { s with mirrors := [] } .ok)

/-- `WIPE`, 41 R129: every byte of `Store` becomes 0x00. -/
def execWipe (s : State) : Outcome := s.onHost (State.finish { s with store := ⟨.const 0, []⟩ } .ok)

end Sys2Proof.Machine
end

