-- ==== Sys2Proof/Machine/Complex.lean ====
section
/-! DEFINITION. MMC1, MMC2, MMC4 and MMC3, 46 R221 to R257. -/

namespace Sys2Proof.Machine

/-! ## MMC1 -/

/-- The shift register with the data bit taken in, R221. -/
def mmc1Shifted (r : Mmc1) (d : Byte) : BitVec 5 := r.shiftValue ||| ((d.extractLsb' 0 1).setWidth 5 <<< r.shiftCount.val)

/-- The fifth write of a serial load: the value goes to the register that `a[14:13]` selects, R221. -/
def State.mmc1Commit (s : State) (c : Cartridge) (r : Mmc1) (a : Addr) (v : BitVec 5) : State :=
  let r := { r with shiftValue := 0, shiftCount := 0 }
  let target := a.extractLsb' 13 2
  if target = 0 then
    (s.setMirror (c.setMapper (.mmc1 { r with control := v })) (mmc1Mirror (v.extractLsb' 0 2)).1
      (mmc1Mirror (v.extractLsb' 0 2)).2).finish .ok
  else if target = 1 then s.putRegs c (.mmc1 { r with chr0 := v })
  else if target = 2 then s.putRegs c (.mmc1 { r with chr1 := v })
  else s.putRegs c (.mmc1 { r with prg := v })

/-- `MMC1.W.SERIAL`, R221. -/
def execMmc1WSerial (a : Addr) (d : Byte) (s : State) : Outcome :=
  s.onRow (cpuAddr 0x8000 0xFFFF a) asMmc1 fun c r =>
    if d.getLsbD 7 then s.putRegs c (.mmc1 { r with shiftValue := 0, shiftCount := 0, control := r.control ||| 0x0C })
    else if r.shiftCount.val < 4 then
      s.putRegs c (.mmc1 { r with shiftValue := mmc1Shifted r d, shiftCount := r.shiftCount + 1 })
    else s.mmc1Commit c r a (mmc1Shifted r d)

/-- `MMC1.R.PRG`, R223. -/
def execMmc1RPrg (a : Addr) (s : State) : Outcome :=
  s.onRow (cpuAddr 0x8000 0xFFFF a) asMmc1 fun c r => s.answer (mmc1PrgByte c r a.toNat)

/-- `MMC1.R.PRGRAM`, R224. -/
def execMmc1RPrgram (a : Addr) (s : State) : Outcome :=
  s.onRow (cpuAddr 0x6000 0x7FFF a) asMmc1 fun c r =>
    if mmc1RamDisabled r then s.openBus else s.answer (c.prgRam.read (c.ram6000 s.params 0 a.toNat))

/-- `MMC1.W.PRGRAM`, R225. -/
def execMmc1WPrgram (a : Addr) (d : Byte) (s : State) : Outcome :=
  s.onRow (cpuAddr 0x6000 0x7FFF a) asMmc1 fun c r =>
    if mmc1RamDisabled r then s.raise (.writeProtected a d) else s.writeRam c (c.ram6000 s.params 0 a.toNat) d

/-- `MMC1.VR.CHR`, R226. -/
def execMmc1VrChr (a : Addr) (s : State) : Outcome :=
  s.onRow (videoAddr a) asMmc1 fun c r => s.answer (c.chr.read (mmc1ChrIndex c r a.toNat))

/-- `MMC1.VW.CHR`, R227. -/
def execMmc1VwChr (a : Addr) (d : Byte) (s : State) : Outcome :=
  s.onRow (videoAddr a) asMmc1 fun c r => s.chrWrite c a (mmc1ChrIndex c r a.toNat) d

/-! ## MMC2 and MMC4 -/

/-- A register write of MMC2 or MMC4. -/
def State.mmc24Write (s : State) (addr : Option Refusal) (f : Mmc24 → Mmc24) : Outcome :=
  s.onRow addr asMmc24 fun c r => s.putRegs c (withMmc24 c.mapper (f r))

/-- `MMC24.W.ROM`, R229. -/
def execMmc24WRom (a : Addr) (d : Byte) (s : State) : Outcome :=
  s.onRow (cpuAddr 0x8000 0x9FFF a) asMmc24 fun _ _ => s.raise (.illegalWrite a d)

/-- `MMC24.W.PRGSEL`, R230. -/
def execMmc24WPrgsel (a : Addr) (d : Byte) (s : State) : Outcome :=
  s.mmc24Write (cpuAddr 0xA000 0xAFFF a) fun r => { r with prgSel := d }

/-- `MMC24.W.CHR0FD`, R231. -/
def execMmc24WChr0fd (a : Addr) (d : Byte) (s : State) : Outcome :=
  s.mmc24Write (cpuAddr 0xB000 0xBFFF a) fun r => { r with chr0FD := d }

/-- `MMC24.W.CHR0FE`, R232. -/
def execMmc24WChr0fe (a : Addr) (d : Byte) (s : State) : Outcome :=
  s.mmc24Write (cpuAddr 0xC000 0xCFFF a) fun r => { r with chr0FE := d }

/-- `MMC24.W.CHR1FD`, R233. -/
def execMmc24WChr1fd (a : Addr) (d : Byte) (s : State) : Outcome :=
  s.mmc24Write (cpuAddr 0xD000 0xDFFF a) fun r => { r with chr1FD := d }

/-- `MMC24.W.CHR1FE`, R234. -/
def execMmc24WChr1fe (a : Addr) (d : Byte) (s : State) : Outcome :=
  s.mmc24Write (cpuAddr 0xE000 0xEFFF a) fun r => { r with chr1FE := d }

/-- `MMC24.W.MIRROR`, R235. -/
def execMmc24WMirror (a : Addr) (d : Byte) (s : State) : Outcome :=
  s.onRow (cpuAddr 0xF000 0xFFFF a) asMmc24 fun c _ =>
    (s.setMirror c (if d.getLsbD 0 then .horizontal else .vertical) 0).finish .ok

/-- `MMC2.R.PRG`, R236. -/
def execMmc2RPrg (a : Addr) (s : State) : Outcome :=
  s.onRow (cpuAddr 0x8000 0xFFFF a) asMmc2 fun c r => s.answer (mmc2PrgByte c r a.toNat)

/-- `MMC4.R.PRG`, R237. -/
def execMmc4RPrg (a : Addr) (s : State) : Outcome :=
  s.onRow (cpuAddr 0x8000 0xFFFF a) asMmc4 fun c r =>
    s.answer (c.lowBankHighFixed (r.prgSel.extractLsb' 0 4).toNat a.toNat)

/-- `MMC2.VR.CHR`, R239: the byte by the latches before, then the latch. -/
def execMmc2VrChr (a : Addr) (s : State) : Outcome :=
  s.onRow (videoAddr a) asMmc2 fun c r =>
    (s.setCart (c.setMapper (.mmc2 (mmc2Latch r a.toNat)))).answer (c.chr.read (chr24Offset c r a.toNat))

/-- `MMC4.VR.CHR`, R240. -/
def execMmc4VrChr (a : Addr) (s : State) : Outcome :=
  s.onRow (videoAddr a) asMmc4 fun c r =>
    (s.setCart (c.setMapper (.mmc4 (mmc4Latch r a.toNat)))).answer (c.chr.read (chr24Offset c r a.toNat))

/-- `MMC24.VW.CHR`, R241. -/
def execMmc24VwChr (a : Addr) (d : Byte) (s : State) : Outcome :=
  s.onRow (videoAddr a) asMmc24 fun c r => s.chrWrite c a (chr24Offset c r a.toNat) d

/-! ## MMC3 -/

/-- A register write of MMC3. -/
def State.mmc3Write (s : State) (addr : Option Refusal) (f : Mmc3 → Mmc3) : Outcome :=
  s.onRow addr asMmc3 fun c r => s.putRegs c (.mmc3 (f r))

/-- `MMC3.W.BANKSELECT`, R243. -/
def execMmc3WBankselect (a : Addr) (d : Byte) (s : State) : Outcome :=
  s.mmc3Write (parityAddr 0x8000 0x9FFF 0 a) fun r => { r with bankSelect := d }

/-- `MMC3.W.BANKDATA`, R244. -/
def execMmc3WBankdata (a : Addr) (d : Byte) (s : State) : Outcome :=
  s.mmc3Write (parityAddr 0x8000 0x9FFF 1 a) fun r =>
    { r with regs := poke r.regs (r.bankSelect.extractLsb' 0 3).toNat d }

/-- `MMC3.W.MIRROR`, R245. -/
def execMmc3WMirror (a : Addr) (d : Byte) (s : State) : Outcome :=
  s.onRow (parityAddr 0xA000 0xBFFF 0 a) asMmc3 fun c _ =>
    (s.setMirror c (if d.getLsbD 0 then .horizontal else .vertical) 0).finish .ok

/-- `MMC3.W.RAMPROTECT`, R246. -/
def execMmc3WRamprotect (a : Addr) (d : Byte) (s : State) : Outcome :=
  s.mmc3Write (parityAddr 0xA000 0xBFFF 1 a) fun r => { r with ramEnable := d.getLsbD 7, ramDeny := d.getLsbD 6 }

/-- `MMC3.W.IRQLATCH`, R247. -/
def execMmc3WIrqlatch (a : Addr) (d : Byte) (s : State) : Outcome :=
  s.mmc3Write (parityAddr 0xC000 0xDFFF 0 a) fun r => { r with irqLatch := d }

/-- `MMC3.W.IRQRELOAD`, R248. -/
def execMmc3WIrqreload (a : Addr) (_d : Byte) (s : State) : Outcome :=
  s.mmc3Write (parityAddr 0xC000 0xDFFF 1 a) fun r => { r with irqCounter := 0, irqReload := true }

/-- `MMC3.W.IRQDISABLE`, R249. -/
def execMmc3WIrqdisable (a : Addr) (_d : Byte) (s : State) : Outcome :=
  s.mmc3Write (parityAddr 0xE000 0xFFFF 0 a) fun r => { r with irqEnabled := false, irqPending := false }

/-- `MMC3.W.IRQENABLE`, R250. -/
def execMmc3WIrqenable (a : Addr) (_d : Byte) (s : State) : Outcome :=
  s.mmc3Write (parityAddr 0xE000 0xFFFF 1 a) fun r => { r with irqEnabled := true }

/-- `MMC3.R.PRG`, R251. -/
def execMmc3RPrg (a : Addr) (s : State) : Outcome :=
  s.onRow (cpuAddr 0x8000 0xFFFF a) asMmc3 fun c r => s.answer (mmc3PrgByte c r a.toNat)

/-- `MMC3.VR.CHR`, R252. -/
def execMmc3VrChr (a : Addr) (s : State) : Outcome :=
  s.onRow (videoAddr a) asMmc3 fun c r => s.answer (c.chr.read (mmc3ChrIndex c r a.toNat))

/-- `MMC3.VW.CHR`, R253. -/
def execMmc3VwChr (a : Addr) (d : Byte) (s : State) : Outcome :=
  s.onRow (videoAddr a) asMmc3 fun c r => s.chrWrite c a (mmc3ChrIndex c r a.toNat) d

/-- `MMC3.VC`, R254. -/
def execMmc3Vc (scanline cycle : BitVec 16) (showBackground showSprites : Bool) (s : State) : Outcome :=
  s.onRow none asMmc3 fun c r =>
    (s.setCart (c.setMapper (.mmc3 (if mmc3Clock s.params scanline cycle showBackground showSprites then mmc3Count r else r)))).finish
      .nothing

/-- `MMC3.R.PRGRAM`, R255. -/
def execMmc3RPrgram (a : Addr) (s : State) : Outcome :=
  s.onRow (cpuAddr 0x6000 0x7FFF a) asMmc3 fun c r =>
    if r.ramEnable then s.answer (c.prgRam.read (c.ram6000 s.params 0 a.toNat)) else s.openBus

/-- `MMC3.W.PRGRAM`, R256. -/
def execMmc3WPrgram (a : Addr) (d : Byte) (s : State) : Outcome :=
  s.onRow (cpuAddr 0x6000 0x7FFF a) asMmc3 fun c r =>
    if mmc3RamWritable r then s.writeRam c (c.ram6000 s.params 0 a.toNat) d else s.raise (.writeProtected a d)

end Sys2Proof.Machine
end

