-- ==== Sys2Proof/Machine/Loader.lean ====
section
/-! DEFINITION. The loader and the other host operations on the cartridge: the image header (30 R74 to R78), `LOAD` (40 R99
to R110), the state after a load (70 R286), `UNLOAD` (R111), the persistence hooks (R113, R114), `NAME` (42 R145). -/

namespace Sys2Proof.Machine

/-- Header byte `H[k]`, 30 R74. -/
def headerByte (image : List Byte) (k : Nat) : Byte := image.getD k 0

/-- The magic constant, 40 R100. -/
def magicBytes : List Byte := [0x4E, 0x45, 0x53, 0x1A]

/-- `prgBanks`, 30 R75. -/
def imagePrgBanks (image : List Byte) : Nat := (headerByte image 4).toNat

/-- `chrBanks`, 30 R75. -/
def imageChrBanks (image : List Byte) : Nat := (headerByte image 5).toNat

/-- `mapperId`, 30 R76. -/
def imageMapperId (image : List Byte) : Byte :=
  ((headerByte image 7).extractLsb' 4 4) ++ ((headerByte image 6).extractLsb' 4 4)

/-- Where the program data starts: after the header and the trainer, 40 R101 and R102. -/
def imageDataStart (image : List Byte) : Nat :=
  Config.headerSize + if (headerByte image 6).getLsbD 2 then Config.trainerSize else 0

/-- `need`, the length that the header declares, 30 R78. -/
def imageNeed (image : List Byte) : Nat :=
  imageDataStart image + imagePrgBanks image * Config.prgBankUnit + imageChrBanks image * Config.chrBankUnit

/-- The checks of `LOAD` in their order, 40 R99 and R108: the error, or the variant of the image. -/
def checkImage (p : Params) (image : List Byte) : Except Error Variant :=
  if image.length < Config.headerSize then .error (.format .len)
  else if image.take 4 ≠ magicBytes then .error (.format .magic)
  else if imagePrgBanks image = 0 then .error (.format .prgBanks)
  else if image.length < imageNeed image then .error (.format .len)
  else
    match p.variantOf (imageMapperId image) with
    | none => .error (.unsupportedMapper (imageMapperId image))
    | some v => .ok v

/-- The header mirroring, 30 R77. -/
def imageMirrorMode (image : List Byte) : MirrorMode :=
  if (headerByte image 6).getLsbD 3 then .fourScreen
  else if (headerByte image 6).getLsbD 0 then .vertical
  else .horizontal

/-- `PrgRom`, 40 R102. -/
def imagePrgRom (image : List Byte) : Memory :=
  ⟨.data ((image.drop (imageDataStart image)).take (imagePrgBanks image * Config.prgBankUnit)), []⟩

/-- `Chr`, 40 R103. -/
def imageChr (image : List Byte) : Memory :=
  if imageChrBanks image = 0 then ⟨.const 0, []⟩
  else
    ⟨.data ((image.drop (imageDataStart image + imagePrgBanks image * Config.prgBankUnit)).take
      (imageChrBanks image * Config.chrBankUnit)), []⟩

/-- Draw `k` of a group as a value of `w ≤ 16` bits; FREE VALUE, log 5. -/
def drawn (w tag k : Nat) : BitVec w := (Config.freeWord tag k).setWidth w

/-- A drawn latch. -/
def drawnLatch (tag k : Nat) : Latch := if Config.freeBit tag k then .fd else .fe

/-- MMC5 after load, 10 R38 and 70 R286; `ExRam` is the draw group `exTag`. -/
def freshMmc5 (tag exTag : Nat) : Mmc5 where
  prgMode := 3
  chrMode := drawn 2 tag 0
  protect1 := drawn 2 tag 1
  protect2 := drawn 2 tag 2
  exramMode := drawn 2 tag 3
  ntSelect := #v[drawn 2 tag 4, drawn 2 tag 5, drawn 2 tag 6, drawn 2 tag 7]
  fillTile := drawn 8 tag 8
  fillAttr := drawn 2 tag 9
  prgRamBank := drawn 7 tag 10
  prgBank := #v[drawn 8 tag 11, drawn 8 tag 12, drawn 8 tag 13, 0xFF]
  chrA := #v[drawn 10 tag 14, drawn 10 tag 15, drawn 10 tag 16, drawn 10 tag 17, drawn 10 tag 18, drawn 10 tag 19,
    drawn 10 tag 20, drawn 10 tag 21]
  chrB := #v[drawn 10 tag 22, drawn 10 tag 23, drawn 10 tag 24, drawn 10 tag 25]
  chrUpper := drawn 2 tag 26
  lastChrSet := if Config.freeBit tag 27 then .a else .b
  factor1 := drawn 8 tag 28
  factor2 := drawn 8 tag 29
  product := drawn 16 tag 30
  exRam := ⟨.free exTag, []⟩
  videoActive := false

/-- MMC1 after load, 10 R44 and 70 R286: `control[3:2] = 0b11`. -/
def freshMmc1 (tag : Nat) : Mmc1 where
  shiftValue := 0
  shiftCount := 0
  control := drawn 5 tag 0 ||| 0x0C
  chr0 := drawn 5 tag 1
  chr1 := drawn 5 tag 2
  prg := drawn 5 tag 3

/-- MMC2 and MMC4 after load, 10 R45 and 70 R286. -/
def freshMmc24 (tag : Nat) : Mmc24 where
  prgSel := drawn 8 tag 0
  chr0FD := drawn 8 tag 1
  chr0FE := drawn 8 tag 2
  chr1FD := drawn 8 tag 3
  chr1FE := drawn 8 tag 4
  latch0 := drawnLatch tag 5
  latch1 := drawnLatch tag 6

/-- MMC3 after load, 10 R46 and 70 R286. -/
def freshMmc3 (tag : Nat) : Mmc3 where
  bankSelect := drawn 8 tag 0
  regs := #v[drawn 8 tag 1, drawn 8 tag 2, drawn 8 tag 3, drawn 8 tag 4, drawn 8 tag 5, drawn 8 tag 6, drawn 8 tag 7,
    drawn 8 tag 8]
  ramEnable := Config.freeBit tag 9
  ramDeny := Config.freeBit tag 10
  irqLatch := drawn 8 tag 11
  irqCounter := drawn 8 tag 12
  irqReload := Config.freeBit tag 13
  irqEnabled := false
  irqPending := false

/-- The reset state of a variant's mapper, 40 R106 and 70 R286. -/
def freshMapper (v : Variant) (tag exTag : Nat) : Mapper :=
  match v with
  | .nrom => .nrom
  | .uxrom => .uxrom (drawn 8 tag 0)
  | .cnrom => .cnrom (drawn 8 tag 0)
  | .axrom => .axrom (drawn 8 tag 0)
  | .colorDreams => .colorDreams (drawn 8 tag 0)
  | .cprom => .cprom (drawn 8 tag 0)
  | .m15 => .m15 (drawn 8 tag 0) (drawn 2 tag 1)
  | .gxrom => .gxrom (drawn 8 tag 0)
  | .camerica71 => .camerica71 (drawn 8 tag 0)
  | .mmc1 => .mmc1 (freshMmc1 tag)
  | .mmc2 => .mmc2 (freshMmc24 tag)
  | .mmc4 => .mmc4 (freshMmc24 tag)
  | .mmc3 => .mmc3 (freshMmc3 tag)
  | .mmc5 => .mmc5 (freshMmc5 tag exTag)

/-- The cartridge that a good image loads, 40 R99 and 70 R286. The draws are of the groups `n` (`PrgRam`), `n + 1`
(`ExRam`) and `n + 2` (registers). -/
def imageCartridge (v : Variant) (image : List Byte) (n : Nat) : Cartridge where
  prgBanks := imagePrgBanks image
  chrBanks := imageChrBanks image
  prgRom := imagePrgRom image
  chr := imageChr image
  prgRam := ⟨.free n, []⟩
  batteryPresent := (headerByte image 6).getLsbD 1
  mirrorMode := imageMirrorMode image
  singleScreenPage := 0
  fourScreenLocked := (headerByte image 6).getLsbD 3
  mapper := freshMapper v (n + 2) (n + 1)

/-- `LOAD(image)`, 40 R99: all or nothing (R107). -/
def execLoad (image : List Byte) (s : State) : Outcome :=
  s.onHost
    (match checkImage s.params image with
    | .error e => s.raise e
    | .ok v => State.finish { s with cart := some (imageCartridge v image s.draws), draws := s.draws + 3 } .ok)

/-- `UNLOAD()`, 40 R111. -/
def execUnload (s : State) : Outcome := s.onHost (State.finish { s with cart := none } .ok)

/-- The refusals of `SAVE_LOAD` beyond `NoCartridge`, 60 R267. -/
def saveLoadSel (p : Params) (bytes : List Byte) (c : Cartridge) : Except Refusal Unit :=
  if c.batteryPresent = false then .error .noBattery
  else if bytes.length ≠ c.prgRamLen p then .error .badSaveLength
  else .ok ()

/-- `SAVE_LOAD(bytes)`, 40 R113. -/
def execSaveload (bytes : List Byte) (s : State) : Outcome :=
  s.onCart (saveLoadSel s.params bytes) fun c _ => (s.setCart { c with prgRam := ⟨.data bytes, []⟩ }).finish .ok

/-- The refusal of `SAVE_DUMP` beyond `NoCartridge`, 60 R267. -/
def saveDumpSel (c : Cartridge) : Except Refusal Unit :=
  if c.batteryPresent = false then .error .noBattery else .ok ()

/-- `SAVE_DUMP()`, 40 R114. -/
def execSavedump (s : State) : Outcome := s.onCart saveDumpSel fun c _ => s.finish (.bytes (c.prgRam.dump (c.prgRamLen s.params)))

/-- `NAME`, 42 R145. -/
def execName (s : State) : Outcome := s.onCart (fun _ => .ok ()) fun c (_ : Unit) => s.finish (.name (variantName c.variant))

end Sys2Proof.Machine
end

