-- ==== Sys2Proof/Machine/Mmc5Regs.lean ====
section
/-! DEFINITION. The representative chip's registers and multiplier, 43 R151 to R171. -/

namespace Sys2Proof.Machine

/-- A register write of the representative chip: the new registers, and `ok` (43, template). -/
def State.mmc5Write (s : State) (f : Mmc5 → Mmc5) : Outcome := s.onRow none asMmc5 fun c r => s.putRegs c (.mmc5 (f r))

/-- `MMC5.W.PRGMODE`, R151. -/
def execMmc5WPrgmode (d : Byte) (s : State) : Outcome := s.mmc5Write fun r => { r with prgMode := d.extractLsb' 0 2 }

/-- `MMC5.W.CHRMODE`, R152. -/
def execMmc5WChrmode (d : Byte) (s : State) : Outcome := s.mmc5Write fun r => { r with chrMode := d.extractLsb' 0 2 }

/-- `MMC5.W.PROTECT1`, R153. -/
def execMmc5WProtect1 (d : Byte) (s : State) : Outcome := s.mmc5Write fun r => { r with protect1 := d.extractLsb' 0 2 }

/-- `MMC5.W.PROTECT2`, R154. -/
def execMmc5WProtect2 (d : Byte) (s : State) : Outcome := s.mmc5Write fun r => { r with protect2 := d.extractLsb' 0 2 }

/-- `MMC5.W.EXRAMMODE`, R156. -/
def execMmc5WExrammode (d : Byte) (s : State) : Outcome := s.mmc5Write fun r => { r with exramMode := d.extractLsb' 0 2 }

/-- `MMC5.W.NTMAP`, R157. -/
def execMmc5WNtmap (d : Byte) (s : State) : Outcome :=
  s.mmc5Write fun r =>
    { r with ntSelect := #v[d.extractLsb' 0 2, d.extractLsb' 2 2, d.extractLsb' 4 2, d.extractLsb' 6 2] }

/-- `MMC5.W.FILLTILE`, R158. -/
def execMmc5WFilltile (d : Byte) (s : State) : Outcome := s.mmc5Write fun r => { r with fillTile := d }

/-- `MMC5.W.FILLATTR`, R159. -/
def execMmc5WFillattr (d : Byte) (s : State) : Outcome := s.mmc5Write fun r => { r with fillAttr := d.extractLsb' 0 2 }

/-- `MMC5.W.PRGRAMBANK`, R160. -/
def execMmc5WPrgrambank (d : Byte) (s : State) : Outcome :=
  s.mmc5Write fun r => { r with prgRamBank := d.extractLsb' 0 7 }

/-- `MMC5.W.PRGBANK0`, R161. -/
def execMmc5WPrgbank0 (d : Byte) (s : State) : Outcome := s.mmc5Write fun r => { r with prgBank := r.prgBank.set 0 d }

/-- `MMC5.W.PRGBANK1`, R162. -/
def execMmc5WPrgbank1 (d : Byte) (s : State) : Outcome := s.mmc5Write fun r => { r with prgBank := r.prgBank.set 1 d }

/-- `MMC5.W.PRGBANK2`, R163. -/
def execMmc5WPrgbank2 (d : Byte) (s : State) : Outcome := s.mmc5Write fun r => { r with prgBank := r.prgBank.set 2 d }

/-- `MMC5.W.PRGBANK3`, R164. -/
def execMmc5WPrgbank3 (d : Byte) (s : State) : Outcome := s.mmc5Write fun r => { r with prgBank := r.prgBank.set 3 d }

/-- `MMC5.W.CHRA`, R165. -/
def execMmc5WChra (i : BitVec 3) (d : Byte) (s : State) : Outcome :=
  s.mmc5Write fun r => { r with chrA := poke r.chrA i.toNat (r.chrUpper ++ d), lastChrSet := .a }

/-- `MMC5.W.CHRB`, R166. -/
def execMmc5WChrb (i : BitVec 2) (d : Byte) (s : State) : Outcome :=
  s.mmc5Write fun r => { r with chrB := poke r.chrB i.toNat (r.chrUpper ++ d), lastChrSet := .b }

/-- `MMC5.W.CHRUPPER`, R167. -/
def execMmc5WChrupper (d : Byte) (s : State) : Outcome := s.mmc5Write fun r => { r with chrUpper := d.extractLsb' 0 2 }

/-- The exact unsigned product of two bytes, R172. -/
def product16 (x y : Byte) : BitVec 16 := BitVec.ofNat 16 (x.toNat * y.toNat)

/-- `MMC5.W.MULT1`, R168. -/
def execMmc5WMult1 (d : Byte) (s : State) : Outcome :=
  s.mmc5Write fun r => { r with factor1 := d, product := product16 d r.factor2 }

/-- `MMC5.W.MULT2`, R169. -/
def execMmc5WMult2 (d : Byte) (s : State) : Outcome :=
  s.mmc5Write fun r => { r with factor2 := d, product := product16 r.factor1 d }

/-- `MMC5.R.PRODLO`, R170. -/
def execMmc5RProdlo (s : State) : Outcome :=
  s.onRow none asMmc5 fun _ r => s.answer (r.product.extractLsb' 0 8)

/-- `MMC5.R.PRODHI`, R171. -/
def execMmc5RProdhi (s : State) : Outcome :=
  s.onRow none asMmc5 fun _ r => s.answer (r.product.extractLsb' 8 8)

end Sys2Proof.Machine
end

