-- ==== Sys2Proof/Machine/Mmc5Windows.lean ====
section
/-! DEFINITION. The representative chip's windows and video hook, 44 R173 to R188. -/

namespace Sys2Proof.Machine

/-- `MMC5.R.PRGRAM6000`, R174. -/
def execMmc5RPrgram6000 (a : Addr) (s : State) : Outcome :=
  s.onRow (cpuAddr 0x6000 0x7FFF a) asMmc5 fun c r =>
    s.answer (c.prgRam.read (c.ram6000 s.params r.prgRamBank.toNat a.toNat))

/-- `MMC5.W.PRGRAM6000`, R175. -/
def execMmc5WPrgram6000 (a : Addr) (d : Byte) (s : State) : Outcome :=
  s.onRow (cpuAddr 0x6000 0x7FFF a) asMmc5 fun c r =>
    if ramWritable r then s.writeRam c (c.ram6000 s.params r.prgRamBank.toNat a.toNat) d else s.raise (.writeProtected a d)

/-- `MMC5.R.PRG`, R176. -/
def execMmc5RPrg (a : Addr) (s : State) : Outcome :=
  s.onRow (cpuAddr 0x8000 0xFFFF a) asMmc5 fun c r =>
    let w := prgWindow r a.toNat
    s.answer
      (if w.rom then c.prgRom.read (windowIndex w a.toNat c.prgLen)
      else c.prgRam.read (windowIndex w a.toNat (c.prgRamLen s.params)))

/-- `MMC5.W.PRG`, R177 and R178: the ROM bit first, then the latch. -/
def execMmc5WPrg (a : Addr) (d : Byte) (s : State) : Outcome :=
  s.onRow (cpuAddr 0x8000 0xFFFF a) asMmc5 fun c r =>
    let w := prgWindow r a.toNat
    if w.rom then s.raise (.illegalWrite a d)
    else if ramWritable r then s.writeRam c (windowIndex w a.toNat (c.prgRamLen s.params)) d
    else s.raise (.writeProtected a d)

/-- `MMC5.VR.CHR`, R183. -/
def execMmc5VrChr (a : Addr) (s : State) : Outcome :=
  s.onRow (videoAddr a) asMmc5 fun c r => s.answer (c.chr.read (mmc5ChrIndex c r a.toNat))

/-- `MMC5.VW.CHR`, R184. -/
def execMmc5VwChr (a : Addr) (d : Byte) (s : State) : Outcome :=
  s.onRow (videoAddr a) asMmc5 fun c r => s.chrWrite c a (mmc5ChrIndex c r a.toNat) d

/-- `MMC5.R.EXRAM`, R186. -/
def execMmc5RExram (a : Addr) (s : State) : Outcome :=
  s.onRow (cpuAddr 0x5C00 0x5FFF a) asMmc5 fun _ r =>
    if exRamReadable r then s.answer (r.exRam.read (exRamIndex a.toNat)) else s.openBus

/-- `MMC5.W.EXRAM`, R187: a discarded write is `ok`. -/
def execMmc5WExram (a : Addr) (d : Byte) (s : State) : Outcome :=
  s.onRow (cpuAddr 0x5C00 0x5FFF a) asMmc5 fun c r =>
    if exRamWritable r then s.putRegs c (.mmc5 { r with exRam := r.exRam.write (exRamIndex a.toNat) d })
    else s.finish .ok

/-- `MMC5.VC`, R188. -/
def execMmc5Vc (scanline _cycle : BitVec 16) (_showBackground _showSprites : Bool) (s : State) : Outcome :=
  s.onRow none asMmc5 fun c r =>
    (s.setCart (c.setMapper (.mmc5 { r with videoActive := visibleScanline s.params scanline }))).finish .nothing

end Sys2Proof.Machine
end

