-- ==== Sys2Proof/Machine/Shared.lean ====
section
/-! DEFINITION. The mapper rows shared by several variants, 42 R141 to R149 and 30 R87. -/

namespace Sys2Proof.Machine

/-- The variants with the plain `PrgRam` window at 0x6000, 30 R87. -/
def ram6000Variants : List Variant :=
  [.nrom, .uxrom, .cnrom, .axrom, .mmc2, .mmc4, .colorDreams, .cprom, .m15, .gxrom, .camerica71]

/-- The variants whose video reads show one fixed 8K bank, 30 R87. -/
def chr8ReadVariants : List Variant := [.nrom, .uxrom, .axrom, .m15, .camerica71]

/-- The variants whose video writes go to one fixed 8K bank, 30 R87. -/
def chr8WriteVariants : List Variant := [.nrom, .uxrom, .axrom, .camerica71]

/-- The variants that ignore `VIDEO_CYCLE`, 30 R87. -/
def noCycleVariants : List Variant :=
  [.nrom, .mmc1, .uxrom, .cnrom, .axrom, .mmc2, .mmc4, .colorDreams, .cprom, .m15, .gxrom, .camerica71]

/-- `GEN.W.UNMAPPED`, 42 R141: ignored. -/
def execGenWUnmapped (a : Addr) (_d : Byte) (s : State) : Outcome :=
  s.onRow (cpuAddr s.params.cartBase 0xFFFF a) (ofDefault .cpuWrite a) fun _ _ => s.finish .ok

/-- `GEN.R.UNMAPPED`, 42 R142: open bus. -/
def execGenRUnmapped (a : Addr) (s : State) : Outcome :=
  s.onRow (cpuAddr s.params.cartBase 0xFFFF a) (ofDefault .cpuRead a) fun _ _ => s.openBus

/-- `GEN.R.PRGRAM6000`, 42 R143. -/
def execGenRPrgram6000 (a : Addr) (s : State) : Outcome :=
  s.onRow (cpuAddr 0x6000 0x7FFF a) (ofVariants ram6000Variants) fun c _ =>
    s.answer (c.prgRam.read (c.ram6000 s.params 0 a.toNat))

/-- `GEN.W.PRGRAM6000`, 42 R144. -/
def execGenWPrgram6000 (a : Addr) (d : Byte) (s : State) : Outcome :=
  s.onRow (cpuAddr 0x6000 0x7FFF a) (ofVariants ram6000Variants) fun c _ => s.writeRam c (c.ram6000 s.params 0 a.toNat) d

/-- `GEN.VR.CHR8FIXED`, 42 R146. -/
def execGenVrChr8fixed (a : Addr) (s : State) : Outcome :=
  s.onRow (videoAddr a) (ofVariants chr8ReadVariants) fun c _ =>
    s.answer (c.chr.read (c.chrIndex 0 8192 a.toNat 0x0000))

/-- `GEN.VW.CHR8FIXED`, 42 R148. -/
def execGenVwChr8fixed (a : Addr) (d : Byte) (s : State) : Outcome :=
  s.onRow (videoAddr a) (ofVariants chr8WriteVariants) fun c _ =>
    s.chrWrite c a (c.chrIndex 0 8192 a.toNat 0x0000) d

/-- `GEN.VC.NOP`, 42 R149. -/
def execGenVcNop (_scanline _cycle : BitVec 16) (_showBackground _showSprites : Bool) (s : State) : Outcome :=
  s.onRow none (ofVariants noCycleVariants) fun _ _ => s.finish .nothing

end Sys2Proof.Machine
end

