-- ==== Sys2Proof/Machine/Simple.lean ====
section
/-! DEFINITION. The discrete-logic variants, 45 R189 to R217. -/

namespace Sys2Proof.Machine

/-! ## NROM -/

/-- `NROM.R.PRG`, R189 (variants 0, 3, 13). -/
def execNromRPrg (a : Addr) (s : State) : Outcome :=
  s.onRow (cpuAddr 0x8000 0xFFFF a) (ofVariants [.nrom, .cnrom, .cprom]) fun c _ =>
    s.answer (c.romByte 0 32768 a.toNat 0x8000)

/-- `NROM.W.PRG`, R190. -/
def execNromWPrg (a : Addr) (d : Byte) (s : State) : Outcome :=
  s.onRow (cpuAddr 0x8000 0xFFFF a) (ofVariants [.nrom]) fun _ _ => s.raise (.illegalWrite a d)

/-! ## UxROM -/

/-- `UXROM.R.PRG`, R192. -/
def execUxromRPrg (a : Addr) (s : State) : Outcome :=
  s.onRow (cpuAddr 0x8000 0xFFFF a) asUxrom fun c uxBank => s.answer (c.lowBankHighFixed uxBank.toNat a.toNat)

/-- `UXROM.W.BANK`, R193. -/
def execUxromWBank (a : Addr) (d : Byte) (s : State) : Outcome :=
  s.onRow (cpuAddr 0x8000 0xFFFF a) asUxrom fun c _ => s.putRegs c (.uxrom d)

/-! ## CNROM -/

/-- `CNROM.W.BANK`, R195. -/
def execCnromWBank (a : Addr) (d : Byte) (s : State) : Outcome :=
  s.onRow (cpuAddr 0x8000 0xFFFF a) asCnrom fun c _ => s.putRegs c (.cnrom d)

/-- `CNROM.VR.CHR`, R196. -/
def execCnromVrChr (a : Addr) (s : State) : Outcome :=
  s.onRow (videoAddr a) asCnrom fun c cnBank => s.answer (c.chr.read (c.chrIndex cnBank.toNat 8192 a.toNat 0x0000))

/-- `CNROM.VW.CHR`, R197. -/
def execCnromVwChr (a : Addr) (d : Byte) (s : State) : Outcome :=
  s.onRow (videoAddr a) asCnrom fun c cnBank => s.chrWrite c a (c.chrIndex cnBank.toNat 8192 a.toNat 0x0000) d

/-! ## AxROM -/

/-- `AXROM.R.PRG`, R198. -/
def execAxromRPrg (a : Addr) (s : State) : Outcome :=
  s.onRow (cpuAddr 0x8000 0xFFFF a) asAxrom fun c axReg =>
    s.answer (c.romByte (axReg.extractLsb' 0 3).toNat 32768 a.toNat 0x8000)

/-- `AXROM.W.REG`, R199. -/
def execAxromWReg (a : Addr) (d : Byte) (s : State) : Outcome :=
  s.onRow (cpuAddr 0x8000 0xFFFF a) asAxrom fun c _ =>
    (s.setMirror (c.setMapper (.axrom d)) .singleScreen (d.extractLsb' 4 1)).finish .ok

/-! ## Color Dreams -/

/-- `CD.R.PRG`, R200. -/
def execCdRPrg (a : Addr) (s : State) : Outcome :=
  s.onRow (cpuAddr 0x8000 0xFFFF a) asColorDreams fun c cdReg =>
    s.answer (c.romByte (cdReg.extractLsb' 0 2).toNat 32768 a.toNat 0x8000)

/-- `CD.W.REG`, R201. -/
def execCdWReg (a : Addr) (d : Byte) (s : State) : Outcome :=
  s.onRow (cpuAddr 0x8000 0xFFFF a) asColorDreams fun c _ => s.putRegs c (.colorDreams d)

/-- `CD.VR.CHR`, R202. -/
def execCdVrChr (a : Addr) (s : State) : Outcome :=
  s.onRow (videoAddr a) asColorDreams fun c cdReg =>
    s.answer (c.chr.read (c.chrIndex (cdReg.extractLsb' 4 4).toNat 8192 a.toNat 0x0000))

/-- `CD.VW.CHR`, R203. -/
def execCdVwChr (a : Addr) (d : Byte) (s : State) : Outcome :=
  s.onRow (videoAddr a) asColorDreams fun c cdReg =>
    s.chrWrite c a (c.chrIndex (cdReg.extractLsb' 4 4).toNat 8192 a.toNat 0x0000) d

/-! ## CPROM -/

/-- `CPROM.W.REG`, R204. -/
def execCpromWReg (a : Addr) (d : Byte) (s : State) : Outcome :=
  s.onRow (cpuAddr 0x8000 0xFFFF a) asCprom fun c _ => s.putRegs c (.cprom d)

/-- `CPROM.VR.CHR`, R205. -/
def execCpromVrChr (a : Addr) (s : State) : Outcome :=
  s.onRow (videoAddr a) asCprom fun c cpReg => s.answer (c.chr.read (cpromChrIndex c cpReg a.toNat))

/-- `CPROM.VW.CHR`, R206. -/
def execCpromVwChr (a : Addr) (d : Byte) (s : State) : Outcome :=
  s.onRow (videoAddr a) asCprom fun c cpReg => s.chrWrite c a (cpromChrIndex c cpReg a.toNat) d

/-! ## 100-in-1 -/

/-- `M15.W.REG`, R207: the mode from the address, the bank and the mirroring from the data. -/
def execM15WReg (a : Addr) (d : Byte) (s : State) : Outcome :=
  s.onRow (cpuAddr 0x8000 0xFFFF a) asM15 fun c _ =>
    (s.setMirror (c.setMapper (.m15 d (a.extractLsb' 0 2))) (if d.getLsbD 6 then .horizontal else .vertical) 0).finish .ok

/-- `M15.R.PRG`, R208. -/
def execM15RPrg (a : Addr) (s : State) : Outcome :=
  s.onRow (cpuAddr 0x8000 0xFFFF a) asM15 fun c r => s.answer (m15PrgByte c r.1 r.2 a.toNat)

/-- `M15.VW.CHR`, R209. -/
def execM15VwChr (a : Addr) (d : Byte) (s : State) : Outcome :=
  s.onRow (videoAddr a) asM15 fun c r =>
    if r.2 = 0 ∨ r.2 = 3 then s.raise (.illegalWrite a d) else s.chrWrite c a a.toNat d

/-! ## GxROM -/

/-- `GX.R.PRG`, R210. -/
def execGxRPrg (a : Addr) (s : State) : Outcome :=
  s.onRow (cpuAddr 0x8000 0xFFFF a) asGxrom fun c gxReg =>
    s.answer (c.romByte (gxReg.extractLsb' 4 2).toNat 32768 a.toNat 0x8000)

/-- `GX.W.REG`, R211. -/
def execGxWReg (a : Addr) (d : Byte) (s : State) : Outcome :=
  s.onRow (cpuAddr 0x8000 0xFFFF a) asGxrom fun c _ => s.putRegs c (.gxrom d)

/-- `GX.VR.CHR`, R212. -/
def execGxVrChr (a : Addr) (s : State) : Outcome :=
  s.onRow (videoAddr a) asGxrom fun c gxReg =>
    s.answer (c.chr.read (c.chrIndex (gxReg.extractLsb' 0 2).toNat 8192 a.toNat 0x0000))

/-- `GX.VW.CHR`, R213. -/
def execGxVwChr (a : Addr) (d : Byte) (s : State) : Outcome :=
  s.onRow (videoAddr a) asGxrom fun c gxReg =>
    s.chrWrite c a (c.chrIndex (gxReg.extractLsb' 0 2).toNat 8192 a.toNat 0x0000) d

/-! ## Camerica 71 -/

/-- `C71.R.PRG`, R214. -/
def execC71RPrg (a : Addr) (s : State) : Outcome :=
  s.onRow (cpuAddr 0x8000 0xFFFF a) asCamerica71 fun c c71Bank => s.answer (c.lowBankHighFixed c71Bank.toNat a.toNat)

/-- `C71.W.MIRROR`, R215. -/
def execC71WMirror (a : Addr) (d : Byte) (s : State) : Outcome :=
  s.onRow (cpuAddr 0x8000 0x9FFF a) asCamerica71 fun c _ =>
    (s.setMirror c .singleScreen (d.extractLsb' 4 1)).finish .ok

/-- `C71.W.ROM`, R216. -/
def execC71WRom (a : Addr) (d : Byte) (s : State) : Outcome :=
  s.onRow (cpuAddr 0xA000 0xBFFF a) asCamerica71 fun _ _ => s.raise (.illegalWrite a d)

/-- `C71.W.BANK`, R217. -/
def execC71WBank (a : Addr) (d : Byte) (s : State) : Outcome :=
  s.onRow (cpuAddr 0xC000 0xFFFF a) asCamerica71 fun c _ => s.putRegs c (.camerica71 d)

end Sys2Proof.Machine
end

