-- ==== Sys2Proof/Machine/Cart.lean ====
section
/-! DEFINITION. The bus transactions of the cartridge range (41 R122, R123): the address goes unchanged to the mapper, whose
row the decode of 30 R82 selects. Also the cartridge that stands for a load in `State.withFetchWord` (log 2). -/

namespace Sys2Proof.Machine

/-- The mapper's CPU-side `readByte` and `writeByte` (30 R73, 42 R133): run the row that the decode selected. A row of
another format is never selected there. -/
def mapperAccess (i : Instr) (s : State) : Outcome :=
  match i with
  | .genWUnmapped a d => execGenWUnmapped a d s
  | .genRUnmapped a => execGenRUnmapped a s
  | .genRPrgram6000 a => execGenRPrgram6000 a s
  | .genWPrgram6000 a d => execGenWPrgram6000 a d s
  | .mmc5WPrgmode d => execMmc5WPrgmode d s
  | .mmc5WChrmode d => execMmc5WChrmode d s
  | .mmc5WProtect1 d => execMmc5WProtect1 d s
  | .mmc5WProtect2 d => execMmc5WProtect2 d s
  | .mmc5WExrammode d => execMmc5WExrammode d s
  | .mmc5WNtmap d => execMmc5WNtmap d s
  | .mmc5WFilltile d => execMmc5WFilltile d s
  | .mmc5WFillattr d => execMmc5WFillattr d s
  | .mmc5WPrgrambank d => execMmc5WPrgrambank d s
  | .mmc5WPrgbank0 d => execMmc5WPrgbank0 d s
  | .mmc5WPrgbank1 d => execMmc5WPrgbank1 d s
  | .mmc5WPrgbank2 d => execMmc5WPrgbank2 d s
  | .mmc5WPrgbank3 d => execMmc5WPrgbank3 d s
  | .mmc5WChrupper d => execMmc5WChrupper d s
  | .mmc5WMult1 d => execMmc5WMult1 d s
  | .mmc5WMult2 d => execMmc5WMult2 d s
  | .mmc5WChra i d => execMmc5WChra i d s
  | .mmc5WChrb i d => execMmc5WChrb i d s
  | .mmc5WExram a d => execMmc5WExram a d s
  | .mmc5WPrgram6000 a d => execMmc5WPrgram6000 a d s
  | .mmc5WPrg a d => execMmc5WPrg a d s
  | .mmc5RProdlo => execMmc5RProdlo s
  | .mmc5RProdhi => execMmc5RProdhi s
  | .mmc5RExram a => execMmc5RExram a s
  | .mmc5RPrgram6000 a => execMmc5RPrgram6000 a s
  | .mmc5RPrg a => execMmc5RPrg a s
  | .nromRPrg a => execNromRPrg a s
  | .nromWPrg a d => execNromWPrg a d s
  | .uxromRPrg a => execUxromRPrg a s
  | .uxromWBank a d => execUxromWBank a d s
  | .cnromWBank a d => execCnromWBank a d s
  | .axromRPrg a => execAxromRPrg a s
  | .axromWReg a d => execAxromWReg a d s
  | .cdRPrg a => execCdRPrg a s
  | .cdWReg a d => execCdWReg a d s
  | .cpromWReg a d => execCpromWReg a d s
  | .m15WReg a d => execM15WReg a d s
  | .m15RPrg a => execM15RPrg a s
  | .gxRPrg a => execGxRPrg a s
  | .gxWReg a d => execGxWReg a d s
  | .c71RPrg a => execC71RPrg a s
  | .c71WMirror a d => execC71WMirror a d s
  | .c71WRom a d => execC71WRom a d s
  | .c71WBank a d => execC71WBank a d s
  | .mmc1WSerial a d => execMmc1WSerial a d s
  | .mmc1RPrg a => execMmc1RPrg a s
  | .mmc1RPrgram a => execMmc1RPrgram a s
  | .mmc1WPrgram a d => execMmc1WPrgram a d s
  | .mmc24WRom a d => execMmc24WRom a d s
  | .mmc24WPrgsel a d => execMmc24WPrgsel a d s
  | .mmc24WChr0fd a d => execMmc24WChr0fd a d s
  | .mmc24WChr0fe a d => execMmc24WChr0fe a d s
  | .mmc24WChr1fd a d => execMmc24WChr1fd a d s
  | .mmc24WChr1fe a d => execMmc24WChr1fe a d s
  | .mmc24WMirror a d => execMmc24WMirror a d s
  | .mmc2RPrg a => execMmc2RPrg a s
  | .mmc4RPrg a => execMmc4RPrg a s
  | .mmc3RPrgram a => execMmc3RPrgram a s
  | .mmc3WPrgram a d => execMmc3WPrgram a d s
  | .mmc3RPrg a => execMmc3RPrg a s
  | .mmc3WBankselect a d => execMmc3WBankselect a d s
  | .mmc3WBankdata a d => execMmc3WBankdata a d s
  | .mmc3WMirror a d => execMmc3WMirror a d s
  | .mmc3WRamprotect a d => execMmc3WRamprotect a d s
  | .mmc3WIrqlatch a d => execMmc3WIrqlatch a d s
  | .mmc3WIrqreload a d => execMmc3WIrqreload a d s
  | .mmc3WIrqdisable a d => execMmc3WIrqdisable a d s
  | .mmc3WIrqenable a d => execMmc3WIrqenable a d s
  | .busRLocal _ => .refused .rowNotSelected
  | .busWLocal _ _ => .refused .rowNotSelected
  | .busRCart _ => .refused .rowNotSelected
  | .busWCart _ _ => .refused .rowNotSelected
  | .mirror _ _ _ => .refused .rowNotSelected
  | .resetcfg => .refused .rowNotSelected
  | .wipe => .refused .rowNotSelected
  | .load _ => .refused .rowNotSelected
  | .unload => .refused .rowNotSelected
  | .saveload _ => .refused .rowNotSelected
  | .savedump => .refused .rowNotSelected
  | .name => .refused .rowNotSelected
  | .genVrChr8fixed _ => .refused .rowNotSelected
  | .genVwChr8fixed _ _ => .refused .rowNotSelected
  | .genVcNop _ _ _ _ => .refused .rowNotSelected
  | .mmc5VrChr _ => .refused .rowNotSelected
  | .mmc5VwChr _ _ => .refused .rowNotSelected
  | .mmc5Vc _ _ _ _ => .refused .rowNotSelected
  | .cnromVrChr _ => .refused .rowNotSelected
  | .cnromVwChr _ _ => .refused .rowNotSelected
  | .cdVrChr _ => .refused .rowNotSelected
  | .cdVwChr _ _ => .refused .rowNotSelected
  | .cpromVrChr _ => .refused .rowNotSelected
  | .cpromVwChr _ _ => .refused .rowNotSelected
  | .m15VwChr _ _ => .refused .rowNotSelected
  | .gxVrChr _ => .refused .rowNotSelected
  | .gxVwChr _ _ => .refused .rowNotSelected
  | .mmc1VrChr _ => .refused .rowNotSelected
  | .mmc1VwChr _ _ => .refused .rowNotSelected
  | .mmc2VrChr _ => .refused .rowNotSelected
  | .mmc4VrChr _ => .refused .rowNotSelected
  | .mmc24VwChr _ _ => .refused .rowNotSelected
  | .mmc3VrChr _ => .refused .rowNotSelected
  | .mmc3VwChr _ _ => .refused .rowNotSelected
  | .mmc3Vc _ _ _ _ => .refused .rowNotSelected

/-- Forward a cartridge-range access to the mapper: `Faulted`, `NoCartridge`, then the row (41 R122 to R124, 30 R82). -/
def State.forward (s : State) (f : Format) (a : Addr) (d : Byte) : Outcome :=
  match s.fault with
  | some _ => .refused .faulted
  | none =>
    match s.cart with
    | none => .refused .noCartridge
    | some c =>
      match mapperRow s.params c.variant f a d with
      | none => .refused .rowNotSelected
      | some i => mapperAccess i s

/-- `BUS.R.CART`, 41 R122. -/
def execBusRCart (a : Addr) (s : State) : Outcome := s.forward .cpuRead a 0

/-- `BUS.W.CART`, 41 R123. -/
def execBusWCart (a : Addr) (d : Byte) (s : State) : Outcome := s.forward .cpuWrite a d

/-- A cartridge of a variant with one program bank and no character bank, every byte of its ROM 0x00, as `LOAD` leaves
one (70 R286); used by `State.withFetchWord` only (log 2). -/
def blankCartridge (v : Variant) (n : Nat) : Cartridge where
  prgBanks := 1
  chrBanks := 0
  prgRom := ⟨.const 0, []⟩
  chr := ⟨.const 0, []⟩
  prgRam := ⟨.free n, []⟩
  batteryPresent := false
  mirrorMode := .horizontal
  singleScreenPage := 0
  fourScreenLocked := false
  mapper := freshMapper v (n + 2) (n + 1)

/-- The state with a cartridge of the variant in the slot: the loaded one if it is of that variant (log 2). -/
def State.slotted (s : State) (v : Variant) : State :=
  if s.variant = some v then s else { s with cart := some (blankCartridge v s.draws), draws := s.draws + 3 }

end Sys2Proof.Machine
end

