-- ==== Sys2Proof/Machine/Dispatch.lean ====
section
/-! DEFINITION. One arm per row of spec/opcode_table.json. -/

namespace Sys2Proof.Machine

def exec (i : Instr) (s : State) : Host.Outcome State Fault Refusal :=
  match i with
  | .busRLocal a => Sys2Proof.Machine.execBusRLocal a s
  | .busWLocal a d => Sys2Proof.Machine.execBusWLocal a d s
  | .busRCart a => Sys2Proof.Machine.execBusRCart a s
  | .busWCart a d => Sys2Proof.Machine.execBusWCart a d s
  | .mirror b r e => Sys2Proof.Machine.execMirror b r e s
  | .resetcfg => Sys2Proof.Machine.execResetcfg s
  | .wipe => Sys2Proof.Machine.execWipe s
  | .load image => Sys2Proof.Machine.execLoad image s
  | .unload => Sys2Proof.Machine.execUnload s
  | .saveload bytes => Sys2Proof.Machine.execSaveload bytes s
  | .savedump => Sys2Proof.Machine.execSavedump s
  | .name => Sys2Proof.Machine.execName s
  | .genWUnmapped a d => Sys2Proof.Machine.execGenWUnmapped a d s
  | .genRUnmapped a => Sys2Proof.Machine.execGenRUnmapped a s
  | .genRPrgram6000 a => Sys2Proof.Machine.execGenRPrgram6000 a s
  | .genWPrgram6000 a d => Sys2Proof.Machine.execGenWPrgram6000 a d s
  | .genVrChr8fixed a => Sys2Proof.Machine.execGenVrChr8fixed a s
  | .genVwChr8fixed a d => Sys2Proof.Machine.execGenVwChr8fixed a d s
  | .genVcNop sl cy bg sp => Sys2Proof.Machine.execGenVcNop sl cy bg sp s
  | .mmc5WPrgmode d => Sys2Proof.Machine.execMmc5WPrgmode d s
  | .mmc5WChrmode d => Sys2Proof.Machine.execMmc5WChrmode d s
  | .mmc5WProtect1 d => Sys2Proof.Machine.execMmc5WProtect1 d s
  | .mmc5WProtect2 d => Sys2Proof.Machine.execMmc5WProtect2 d s
  | .mmc5WExrammode d => Sys2Proof.Machine.execMmc5WExrammode d s
  | .mmc5WNtmap d => Sys2Proof.Machine.execMmc5WNtmap d s
  | .mmc5WFilltile d => Sys2Proof.Machine.execMmc5WFilltile d s
  | .mmc5WFillattr d => Sys2Proof.Machine.execMmc5WFillattr d s
  | .mmc5WPrgrambank d => Sys2Proof.Machine.execMmc5WPrgrambank d s
  | .mmc5WPrgbank0 d => Sys2Proof.Machine.execMmc5WPrgbank0 d s
  | .mmc5WPrgbank1 d => Sys2Proof.Machine.execMmc5WPrgbank1 d s
  | .mmc5WPrgbank2 d => Sys2Proof.Machine.execMmc5WPrgbank2 d s
  | .mmc5WPrgbank3 d => Sys2Proof.Machine.execMmc5WPrgbank3 d s
  | .mmc5WChrupper d => Sys2Proof.Machine.execMmc5WChrupper d s
  | .mmc5WMult1 d => Sys2Proof.Machine.execMmc5WMult1 d s
  | .mmc5WMult2 d => Sys2Proof.Machine.execMmc5WMult2 d s
  | .mmc5WChra k d => Sys2Proof.Machine.execMmc5WChra k d s
  | .mmc5WChrb k d => Sys2Proof.Machine.execMmc5WChrb k d s
  | .mmc5WExram a d => Sys2Proof.Machine.execMmc5WExram a d s
  | .mmc5WPrgram6000 a d => Sys2Proof.Machine.execMmc5WPrgram6000 a d s
  | .mmc5WPrg a d => Sys2Proof.Machine.execMmc5WPrg a d s
  | .mmc5RProdlo => Sys2Proof.Machine.execMmc5RProdlo s
  | .mmc5RProdhi => Sys2Proof.Machine.execMmc5RProdhi s
  | .mmc5RExram a => Sys2Proof.Machine.execMmc5RExram a s
  | .mmc5RPrgram6000 a => Sys2Proof.Machine.execMmc5RPrgram6000 a s
  | .mmc5RPrg a => Sys2Proof.Machine.execMmc5RPrg a s
  | .mmc5VrChr a => Sys2Proof.Machine.execMmc5VrChr a s
  | .mmc5VwChr a d => Sys2Proof.Machine.execMmc5VwChr a d s
  | .mmc5Vc sl cy bg sp => Sys2Proof.Machine.execMmc5Vc sl cy bg sp s
  | .nromRPrg a => Sys2Proof.Machine.execNromRPrg a s
  | .nromWPrg a d => Sys2Proof.Machine.execNromWPrg a d s
  | .uxromRPrg a => Sys2Proof.Machine.execUxromRPrg a s
  | .uxromWBank a d => Sys2Proof.Machine.execUxromWBank a d s
  | .cnromWBank a d => Sys2Proof.Machine.execCnromWBank a d s
  | .cnromVrChr a => Sys2Proof.Machine.execCnromVrChr a s
  | .cnromVwChr a d => Sys2Proof.Machine.execCnromVwChr a d s
  | .axromRPrg a => Sys2Proof.Machine.execAxromRPrg a s
  | .axromWReg a d => Sys2Proof.Machine.execAxromWReg a d s
  | .cdRPrg a => Sys2Proof.Machine.execCdRPrg a s
  | .cdWReg a d => Sys2Proof.Machine.execCdWReg a d s
  | .cdVrChr a => Sys2Proof.Machine.execCdVrChr a s
  | .cdVwChr a d => Sys2Proof.Machine.execCdVwChr a d s
  | .cpromWReg a d => Sys2Proof.Machine.execCpromWReg a d s
  | .cpromVrChr a => Sys2Proof.Machine.execCpromVrChr a s
  | .cpromVwChr a d => Sys2Proof.Machine.execCpromVwChr a d s
  | .m15WReg a d => Sys2Proof.Machine.execM15WReg a d s
  | .m15RPrg a => Sys2Proof.Machine.execM15RPrg a s
  | .m15VwChr a d => Sys2Proof.Machine.execM15VwChr a d s
  | .gxRPrg a => Sys2Proof.Machine.execGxRPrg a s
  | .gxWReg a d => Sys2Proof.Machine.execGxWReg a d s
  | .gxVrChr a => Sys2Proof.Machine.execGxVrChr a s
  | .gxVwChr a d => Sys2Proof.Machine.execGxVwChr a d s
  | .c71RPrg a => Sys2Proof.Machine.execC71RPrg a s
  | .c71WMirror a d => Sys2Proof.Machine.execC71WMirror a d s
  | .c71WRom a d => Sys2Proof.Machine.execC71WRom a d s
  | .c71WBank a d => Sys2Proof.Machine.execC71WBank a d s
  | .mmc1WSerial a d => Sys2Proof.Machine.execMmc1WSerial a d s
  | .mmc1RPrg a => Sys2Proof.Machine.execMmc1RPrg a s
  | .mmc1RPrgram a => Sys2Proof.Machine.execMmc1RPrgram a s
  | .mmc1WPrgram a d => Sys2Proof.Machine.execMmc1WPrgram a d s
  | .mmc1VrChr a => Sys2Proof.Machine.execMmc1VrChr a s
  | .mmc1VwChr a d => Sys2Proof.Machine.execMmc1VwChr a d s
  | .mmc24WRom a d => Sys2Proof.Machine.execMmc24WRom a d s
  | .mmc24WPrgsel a d => Sys2Proof.Machine.execMmc24WPrgsel a d s
  | .mmc24WChr0fd a d => Sys2Proof.Machine.execMmc24WChr0fd a d s
  | .mmc24WChr0fe a d => Sys2Proof.Machine.execMmc24WChr0fe a d s
  | .mmc24WChr1fd a d => Sys2Proof.Machine.execMmc24WChr1fd a d s
  | .mmc24WChr1fe a d => Sys2Proof.Machine.execMmc24WChr1fe a d s
  | .mmc24WMirror a d => Sys2Proof.Machine.execMmc24WMirror a d s
  | .mmc2RPrg a => Sys2Proof.Machine.execMmc2RPrg a s
  | .mmc4RPrg a => Sys2Proof.Machine.execMmc4RPrg a s
  | .mmc2VrChr a => Sys2Proof.Machine.execMmc2VrChr a s
  | .mmc4VrChr a => Sys2Proof.Machine.execMmc4VrChr a s
  | .mmc24VwChr a d => Sys2Proof.Machine.execMmc24VwChr a d s
  | .mmc3RPrgram a => Sys2Proof.Machine.execMmc3RPrgram a s
  | .mmc3WPrgram a d => Sys2Proof.Machine.execMmc3WPrgram a d s
  | .mmc3RPrg a => Sys2Proof.Machine.execMmc3RPrg a s
  | .mmc3WBankselect a d => Sys2Proof.Machine.execMmc3WBankselect a d s
  | .mmc3WBankdata a d => Sys2Proof.Machine.execMmc3WBankdata a d s
  | .mmc3WMirror a d => Sys2Proof.Machine.execMmc3WMirror a d s
  | .mmc3WRamprotect a d => Sys2Proof.Machine.execMmc3WRamprotect a d s
  | .mmc3WIrqlatch a d => Sys2Proof.Machine.execMmc3WIrqlatch a d s
  | .mmc3WIrqreload a d => Sys2Proof.Machine.execMmc3WIrqreload a d s
  | .mmc3WIrqdisable a d => Sys2Proof.Machine.execMmc3WIrqdisable a d s
  | .mmc3WIrqenable a d => Sys2Proof.Machine.execMmc3WIrqenable a d s
  | .mmc3VrChr a => Sys2Proof.Machine.execMmc3VrChr a s
  | .mmc3VwChr a d => Sys2Proof.Machine.execMmc3VwChr a d s
  | .mmc3Vc sl cy bg sp => Sys2Proof.Machine.execMmc3Vc sl cy bg sp s

end Sys2Proof.Machine
end

