-- ==== Sys2Proof/Machine/Step.lean ====
section
/-! DEFINITION. One step: the oldest pending transaction is decoded and run, alone and whole (00 R15, 20 R66, 60 R270).
With none pending the block does nothing (60 R283). -/

namespace Sys2Proof.Machine

/-- The state whose oldest pending request has been taken. -/
def State.taken (s : State) (rest : List Request) : State := { s with pending := rest }

/-- One step of the block. -/
def step (s : State) : Host.Outcome State Fault Refusal :=
  match s.pending with
  | [] => .next s
  | r :: rest =>
    match decode s.params s.variant r with
    | .ok i => exec i (s.taken rest)
    | .error e => s.refuse e

/-- `s` with the table word's transaction next in `pending`, no fault recorded, and, for a cartridge-range word, a cartridge of the
variant that the word is read under (log 2, log 12). -/
def State.withFetchWord (s : State) (nbits w : Nat) : State :=
  let r := tableRequest s.params nbits w
  let s := if w % 2 ^ nbits % 65536 < s.params.cartBase then s else s.slotted (tableVariant s.params nbits w)
  { s with fault := none, pending := r :: s.pending }

end Sys2Proof.Machine
end

