-- ==== Sys2Proof/Safety.lean ====
section
/-! DEFINITION. The terms in which statements are made: the invariant of the block, a cartridge ready to serve, the
transactions that read, and what an error leaves. -/

namespace Sys2Proof.Machine

/-- The fill of an array of `n` bytes: a sequence of exactly `n` bytes, one byte everywhere, or draws. -/
def fillSized (f : Fill) (n : Nat) : Bool :=
  match f with
  | .data bytes => bytes.length == n
  | .const _ => true
  | .free _ => true

/-- An array of `n` bytes: canonical, no cell outside it (20 R53), a fill of its length (40 R110). -/
def Memory.holds (m : Memory) (n : Nat) : Bool := m.wf && m.fits n && fillSized m.fill n

/-- `ExRam` is an array of 1024 bytes (10 R38). -/
def Mapper.inv : Mapper → Bool
  | .mmc5 r => r.exRam.holds Config.exRamSize
  | _ => true

/-- What every loaded cartridge keeps: bank counts of one byte and `prgBanks ≥ 1` (10 R26, 30 R75), arrays of their
lengths (10 R26 to R29, 40 R110), ROM that no transaction has written (10 R26, R27), four-screen mirroring exactly when it
is locked (10 R32, 30 R77), and page 0 outside single-screen mode (42 R150). -/
def Cartridge.inv (p : Params) (c : Cartridge) : Bool :=
  decide (1 ≤ c.prgBanks) && decide (c.prgBanks ≤ 255) && decide (c.chrBanks ≤ 255) &&
    c.prgRom.holds c.prgLen && c.prgRom.cells.isEmpty &&
    c.chr.holds c.chrLen && (c.chrIsRam || c.chr.cells.isEmpty) &&
    c.prgRam.holds (c.prgRamLen p) &&
    ((c.mirrorMode == .fourScreen) == c.fourScreenLocked) &&
    (c.mirrorMode == .singleScreen || c.singleScreenPage == 0) &&
    c.mapper.inv

/-- A recorded fault is an access error met under STRICT (60 R263 to R266). -/
def faultInv (p : ErrorPolicy) : Option Error → Bool
  | none => true
  | some (.illegalWrite _ _) => p == .strict
  | some (.writeProtected _ _) => p == .strict
  | some _ => false

/-- The invariant of the block. -/
def State.Inv (s : State) : Prop :=
  s.params.ok = true ∧ s.store.holds Config.storeSize = true ∧
  (∀ r ∈ s.mirrors, r.sourceBase ≤ 0xFFFF ∧ 1 ≤ r.regionSize) ∧
  (∀ c, s.cart = some c → c.inv s.params = true) ∧
  faultInv s.params.policy s.fault = true

/-- No fault is recorded and the cartridge `c` is loaded: all that a mapper row asks of the state before its own rule
(60 R267). Every launch state serves its cartridge (`State.Launch`). -/
def State.Serves (s : State) (c : Cartridge) : Prop := s.fault = none ∧ s.cart = some c

/-- The mapper registers to which 70 R286 gives a value after a load have it; the draws may hold any value. -/
def Mapper.justLoaded : Mapper → Bool
  | .mmc5 r => r.prgMode == 3 && r.prgBank[3] == 0xFF && !r.videoActive && r.exRam.holds Config.exRamSize
  | .mmc1 r => r.shiftValue == 0 && r.shiftCount == 0 && r.control.extractLsb' 2 2 == 0b11
  | .mmc3 r => !r.irqEnabled && !r.irqPending
  | _ => true

/-- The cartridge is in the state of 70 R286 for the image, whose checks pass and whose header names its variant. Every
draw may be any value; so may the bytes of `PrgRam`, which are draws or the host's (40 R113). -/
def Cartridge.JustLoaded (p : Params) (image : List Byte) (c : Cartridge) : Prop :=
  checkImage p image = .ok c.variant ∧ c.prgBanks = imagePrgBanks image ∧ c.chrBanks = imageChrBanks image ∧
  c.prgRom = imagePrgRom image ∧ c.chr = imageChr image ∧ c.prgRam.holds (c.prgRamLen p) = true ∧
  c.batteryPresent = (headerByte image 6).getLsbD 1 ∧ c.fourScreenLocked = (headerByte image 6).getLsbD 3 ∧
  c.mirrorMode = imageMirrorMode image ∧ c.singleScreenPage = 0 ∧ c.mapper.justLoaded = true

/-- THE LAUNCH PREDICATE, 70 R292: no fault, a cartridge with the header's variant in the state of R286, and the mirror
table that the host configured. Nothing is in flight: a transaction of `pending` has not begun (R293, log 2). -/
def State.Launch (s : State) (image : List Byte) (mirrors : List MirrorRegion) : Prop :=
  s.fault = none ∧ s.mirrors = mirrors ∧ ∃ c, s.cart = some c ∧ c.JustLoaded s.params image

/-- The state after the transaction has answered the byte `b` and done nothing else. -/
def State.answered (s : State) (b : Byte) : State := { s with result := .data b }

/-- The state after an access error (60 R262, R264, R265): the error is the result, recorded in `fault` under STRICT. -/
def State.errored (s : State) (e : Error) : State :=
  match s.params.policy with
  | .strict => { s with result := .error e, fault := some e }
  | .lenient => { s with result := .error e }

/-- The state after the transaction has put the cartridge `c` in place of the old one and answered `ok`. -/
def State.stored (s : State) (c : Cartridge) : State := { s with cart := some c, result := .ok }

/-- The cartridge with a mirroring set, unless the header locked it (42 R150). -/
def Cartridge.mirrored (c : Cartridge) (mode : MirrorMode) (page : BitVec 1) : Cartridge :=
  if c.fourScreenLocked then c else { c with mirrorMode := mode, singleScreenPage := page }

/-- The events of setting a mirroring: one where the pair changes (42 R150, 10 R37). -/
def Cartridge.mirrorEvents (c : Cartridge) (mode : MirrorMode) (page : BitVec 1) : List MirrorEvent :=
  if c.fourScreenLocked = true ∨ (mode = c.mirrorMode ∧ page = c.singleScreenPage) then [] else [⟨mode, page⟩]

/-- Transactions one after the other (00 R15), stopping where one has no step. -/
def execAll : List Instr → State → Outcome
  | [], s => .next s
  | i :: rest, s =>
    match exec i s with
    | .next t => execAll rest t
    | .fault e => .fault e
    | .refused r => .refused r

/-- The formats that read: 20 R59. -/
def readFormat : Format → Bool
  | .busRead => true
  | .vidRead => true
  | .cpuRead => true
  | _ => false

/-- The latch registers of a cartridge set aside: what a video read of MMC2 and MMC4 may change (20 R59, 46 R242). -/
def Mapper.lessLatches : Mapper → Mapper
  | .mmc2 r => .mmc2 { r with latch0 := .fd, latch1 := .fd }
  | .mmc4 r => .mmc4 { r with latch0 := .fd, latch1 := .fd }
  | m => m

/-- The instruction needs a loaded cartridge: the `NoCartridge` row of 60 R267. -/
def needsCartridge : Instr → Bool
  | .busRCart _ => true
  | .busWCart _ _ => true
  | .saveload _ => true
  | .savedump => true
  | .name => true
  | i => !i.variants.isEmpty

end Sys2Proof.Machine
end

