-- ==== Sys2Proof/Certificates/Slice0/Obligations.lean ====
section
/-! DEFINITION. The statements about the block, from the numbered rules of spec/. -/

open Sys2Proof Sys2Proof.Machine

/-! ## Encoding and the step -/

/-- 30 R72 to R89: the request that encodes a well-formed instruction decodes to it, for every variant that decodes the
row and, for a bus or host row, whatever is loaded. -/
def Obligations.DecodeEncode : Prop :=
  ∀ (p : Params) (i : Instr) (v : Option Variant), i.wf p = true →
    (i.variants = [] ∨ ∃ w, v = some w ∧ decodesFor p w i = true) → decode p v (encode i) = .ok i

/-- 30 R82, R83, R91: whatever decodes is well formed, is a row of the loaded variant or of the bus or host, and is
encoded by that very request: one request, one meaning. -/
def Obligations.DecodeSound : Prop :=
  ∀ (p : Params) (v : Option Variant) (r : Request) (i : Instr), decode p v r = .ok i →
    i.wf p = true ∧ (i.variants = [] ∨ ∃ w, v = some w ∧ decodesFor p w i = true) ∧ encode i = r

/-- 30 R82: "Rows of one variant and format are pairwise disjoint except the default rows". -/
def Obligations.RowsDisjoint : Prop :=
  ∀ f : Format, (rowsOf f).Pairwise fun r₁ r₂ =>
    ∀ (v : Variant) (a : Addr), ¬(selectsRow v a r₁ = true ∧ selectsRow v a r₂ = true)

/-- 30 R82 and R89: the address test of every row but the defaults and the bus rows is the table's mask test. -/
def Obligations.MaskIsRange : Prop :=
  ∀ (f : Format) (r : Row), r ∈ rowsOf f → ∀ a : Addr, coversRow r a = true ↔ a &&& r.mask = r.matchBits

/-- 30 R72, R82 to R88: requests written out byte by byte decode to the rows that the decode maps give. -/
def Obligations.WrittenRequestsDecode : Prop :=
  let decode := decode Params.standard
  decode (some .mmc5) ⟨.cpuWrite, [0x23, 0x51, 0x10]⟩ = .ok (.mmc5WChra 3 0x10) ∧
  decode (some .mmc3) ⟨.cpuWrite, [0xFF, 0x9F, 0x05]⟩ = .ok (.mmc3WBankdata 0x9FFF 0x05) ∧
  decode (some .camerica71) ⟨.cpuWrite, [0x00, 0xA0, 0x00]⟩ = .ok (.c71WRom 0xA000 0x00) ∧
  decode (some .mmc4) ⟨.vidRead, [0xD9, 0x0F]⟩ = .ok (.mmc4VrChr 0x0FD9) ∧
  decode (some .mmc3) ⟨.videoCycle, [0x05, 0x01, 0x04, 0x01, 0x02]⟩ = .ok (.mmc3Vc 261 260 false true) ∧
  decode none ⟨.configureMirror, [0x00, 0x20, 0x08, 0x00, 0x00, 0x00, 0x20, 0x00]⟩ = .ok (.mirror 0x2000 0x0008 0x2000) ∧
  decode none ⟨.busRead, [0x1F, 0x40]⟩ = .ok (.busRLocal 0x401F) ∧
  decode none ⟨.busRead, [0x20, 0x40]⟩ = .ok (.busRCart 0x4020)

/-- 00 R15, 60 R270, R283 (the queue is the model's, log 2): a step takes the oldest pending request and runs the
instruction it decodes to; with none pending it changes nothing. With no fault recorded it refuses a request that decodes
to none: as 60 R267 says where no cartridge is loaded or a video address is bad, and under the model's own refusals
`rowNotSelected` and `malformedRequest` (log 10, DEDUCED) where there is no such transaction. -/
def Obligations.StepRunsDecoded : Prop :=
  (∀ (s : State) (r : Request) (rest : List Request) (i : Instr), s.pending = r :: rest →
    decode s.params s.variant r = .ok i → step s = exec i { s with pending := rest }) ∧
  (∀ (s : State) (r : Request) (rest : List Request) (e : DecodeError), s.pending = r :: rest → s.fault = none →
    decode s.params s.variant r = .error e → step s = .refused (refusalOf e)) ∧
  (∀ s : State, s.pending = [] → step s = .next s)

/-! ## Refusals, power-on, the invariant -/

/-- 41 R130: with a fault recorded every transaction on every port is refused. -/
def Obligations.FaultedRefusesAll : Prop :=
  ∀ (s : State) (e : Error), s.fault = some e →
    (∀ i : Instr, exec i s = .refused .faulted) ∧
    (∀ (r : Request) (rest : List Request), s.pending = r :: rest → step s = .refused .faulted)

/-- 60 R267: which refusal a transaction meets with no fault recorded, in the table's order. -/
def Obligations.RefusalsInOrder : Prop :=
  (∀ (s : State) (i : Instr), s.fault = none → s.cart = none → needsCartridge i = true →
    exec i s = .refused .noCartridge) ∧
  (∀ (s : State) (a : Addr) (d : Byte) (rest : List Request) (r : Request), s.fault = none → s.cart = none →
    (r = ⟨.vidRead, bytesOf16 a⟩ ∨ r = ⟨.vidWrite, bytesOf16 a ++ [d]⟩) → s.pending = r :: rest →
    step s = .refused .noCartridge) ∧
  (∀ (s : State) (c : Cartridge) (a : Addr) (d : Byte) (rest : List Request) (r : Request), s.Serves c →
    0x1FFF < a.toNat → (r = ⟨.vidRead, bytesOf16 a⟩ ∨ r = ⟨.vidWrite, bytesOf16 a ++ [d]⟩) → s.pending = r :: rest →
    step s = .refused .badVideoAddress) ∧
  (∀ (s : State) (c : Cartridge) (bytes : List Byte), s.Serves c → c.batteryPresent = false →
    exec (.saveload bytes) s = .refused .noBattery ∧ exec .savedump s = .refused .noBattery) ∧
  (∀ (s : State) (c : Cartridge) (bytes : List Byte), s.Serves c → c.batteryPresent = true →
    bytes.length ≠ s.params.prgRamSize c.variant → exec (.saveload bytes) s = .refused .badSaveLength)

/-- 70 R284: no mirror region, no cartridge, no fault, no event and `irqLine` 0 at power-on, and every transaction that
needs a cartridge is refused there, for every value of the parameters; the state `reset` is power-on with the values that
00 R11 gives them. -/
def Obligations.PowerOn : Prop :=
  (∀ p : Params,
    let s := State.powerOn p
    s.params = p ∧ s.mirrors = [] ∧ s.cart = none ∧ s.fault = none ∧ s.events = [] ∧ s.irqLine = false ∧
    ∀ i : Instr, needsCartridge i = true → exec i s = .refused .noCartridge) ∧
  ∃ p : Params, State.reset = State.powerOn p ∧
    p.cartBase = 0x4020 ∧ p.policy = .strict ∧ p.visibleFirst = 0 ∧ p.visibleLast = 239 ∧ p.prerenderScanline = 261 ∧
    p.mmc3IrqCycle = 260 ∧ (∀ v : Variant, p.prgRamSize v = if v = .mmc5 then 65536 else 8192) ∧
    p.supportedMappers.map Prod.fst = [0, 1, 2, 3, 4, 5, 7, 9, 10, 11, 13, 15, 66, 71] ∧
    p.supportedMappers.map Prod.snd = [.nrom, .mmc1, .uxrom, .cnrom, .mmc3, .mmc5, .axrom, .mmc2, .mmc4, .colorDreams,
      .cprom, .m15, .gxrom, .camerica71]

/-- The invariant holds at power-on, for every value of the parameters under which the rules have a meaning (no program
RAM of size 0: 20 R53; log 7), and at `reset`. -/
def Obligations.ResetInv : Prop := (∀ p : Params, p.ok = true → (State.powerOn p).Inv) ∧ State.reset.Inv

/-- 20 R53, 10 R23, R25 to R32, 40 R110, 60 R263: every step keeps the invariant: parameters with no program RAM of
size 0, canonical arrays with no cell outside them, mirror regions of size at least 1, ROM never written, four-screen mirroring exactly when locked, only access errors
met under STRICT recorded in `fault`. -/
def Obligations.StepKeepsInv : Prop := ∀ s t : State, s.Inv → step s = .next t → t.Inv

/-! ## Bus router -/

/-- 41 R120 and R121: a local access reads or writes `Store` at the resolved address and changes nothing else; with a
fault recorded it is refused. -/
def Obligations.LocalAccess : Prop :=
  ∀ (s : State) (a : Addr) (d : Byte), a.toNat < s.params.cartBase →
    (∀ e, s.fault = some e → exec (.busRLocal a) s = .refused .faulted ∧ exec (.busWLocal a d) s = .refused .faulted) ∧
    (s.fault = none →
      exec (.busRLocal a) s = .next { s with result := .data (s.store.read (resolve s.mirrors a.toNat)) } ∧
      exec (.busWLocal a d) s =
        .next { s with store := s.store.write (resolve s.mirrors a.toNat) d, result := .ok })

/-- 41 R125: after a write through one alias, a read through any other gives the byte, as long as that cell keeps it. -/
def Obligations.AliasRoundTrip : Prop :=
  ∀ (s t u : State) (a₁ a₂ : Addr) (d : Byte), s.store.wf = true → a₁.toNat < s.params.cartBase →
    a₂.toNat < s.params.cartBase → resolve s.mirrors a₁.toNat = resolve s.mirrors a₂.toNat →
    exec (.busWLocal a₁ d) s = .next t → u.fault = none → u.params = s.params → u.mirrors = s.mirrors →
    u.store.read (resolve s.mirrors a₁.toNat) = t.store.read (resolve s.mirrors a₁.toNat) →
    exec (.busRLocal a₂) u = .next { u with result := .data d }

/-- 41 R116: a resolved address is at most the address, so a local one stays local. -/
def Obligations.ResolveInRange : Prop :=
  ∀ (p : Params) (mirrors : List MirrorRegion) (a : Nat),
    resolve mirrors a ≤ a ∧ (a < p.cartBase → resolve mirrors a < p.cartBase)

/-- 41 R115, R117, R118: the region appended last decides where it contains the address, and is applied once. -/
def Obligations.NewestRegionWins : Prop :=
  (∀ a : Nat, resolve [] a = a) ∧
  ∀ (mirrors : List MirrorRegion) (r : MirrorRegion) (a : Nat),
    resolve (mirrors ++ [r]) a =
      if r.sourceBase ≤ a ∧ a < r.sourceBase + r.mirroredExtent then r.sourceBase + (a - r.sourceBase) % r.regionSize
      else resolve mirrors a

/-- 41 R119: mirror regions have no effect on an access of the cartridge range. -/
def Obligations.MirrorsSpareCartridge : Prop :=
  ∀ (s t : State) (mirrors : List MirrorRegion) (a : Addr) (d : Byte),
    (exec (.busRCart a) s = .next t → exec (.busRCart a) { s with mirrors := mirrors } = .next { t with mirrors := mirrors }) ∧
    (exec (.busWCart a d) s = .next t →
      exec (.busWCart a d) { s with mirrors := mirrors } = .next { t with mirrors := mirrors })

/-- 41 R127: `CONFIGURE_MIRROR` appends the region, and a region of size 0 is an error that changes nothing. -/
def Obligations.ConfigureMirror : Prop :=
  ∀ (s : State) (base : Addr) (regionSize extent : BitVec 17), s.fault = none →
    (regionSize = 0 → exec (.mirror base regionSize extent) s = .next { s with result := .error (.mirrorConfig 0) }) ∧
    (regionSize ≠ 0 → exec (.mirror base regionSize extent) s =
      .next { s with
        mirrors := s.mirrors ++ [⟨base.toNat, regionSize.toNat, extent.toNat⟩]
        result := .ok })

/-- 41 R128 and R129: `RESET_CONFIGURATION` empties `Mirrors`; `WIPE` makes every byte of `Store` 0x00. -/
def Obligations.ResetcfgWipe : Prop :=
  ∀ s : State, s.fault = none →
    exec .resetcfg s = .next { s with mirrors := [], result := .ok } ∧
    ∃ m : Memory, exec .wipe s = .next { s with store := m, result := .ok } ∧ ∀ i, m.read i = 0

/-- 41 R122 and R123: a cartridge-range access runs the mapper's row at the same address; a read answers a byte, a write
`ok` or an access error that changes nothing but `fault` under STRICT. -/
def Obligations.CartridgeForwarding : Prop :=
  ∀ (s : State) (a : Addr) (d : Byte), s.params.cartBase ≤ a.toNat →
    (∀ e, s.fault = some e → exec (.busRCart a) s = .refused .faulted ∧ exec (.busWCart a d) s = .refused .faulted) ∧
    (s.fault = none → s.cart = none →
      exec (.busRCart a) s = .refused .noCartridge ∧ exec (.busWCart a d) s = .refused .noCartridge) ∧
    ∀ c, s.Serves c →
      (∃ i b t, mapperRow s.params c.variant .cpuRead a 0 = some i ∧ exec (.busRCart a) s = exec i s ∧ exec i s = .next t ∧
        t.result = .data b) ∧
      (∃ i t, mapperRow s.params c.variant .cpuWrite a d = some i ∧ exec (.busWCart a d) s = exec i s ∧ exec i s = .next t ∧
        (t.result = .ok ∨ t = s.errored (.illegalWrite a d) ∨ t = s.errored (.writeProtected a d)))

/-! ## Loader and host operations -/

/-- 40 R102, R103, R105: what a good image loads, for every image that passes the checks of R99. -/
def Obligations.LoadGood : Prop :=
  ∀ (s : State) (image : List Byte) (v : Variant), s.fault = none → 16 ≤ image.length →
    image.take 4 = [0x4E, 0x45, 0x53, 0x1A] → image.getD 4 0 ≠ 0 →
    let h6 := image.getD 6 0
    let prg := (image.getD 4 0).toNat * 16384
    let chr := (image.getD 5 0).toNat * 8192
    let p := 16 + if h6.getLsbD 2 then 512 else 0
    p + prg + chr ≤ image.length →
    s.params.variantOf (BitVec.ofNat 8 ((image.getD 7 0).toNat / 16 * 16 + h6.toNat / 16)) = some v →
    ∃ c : Cartridge,
      exec (.load image) s = .next { s with cart := some c, draws := s.draws + 3, result := .ok } ∧
      c.variant = v ∧ c.prgBanks = (image.getD 4 0).toNat ∧ c.chrBanks = (image.getD 5 0).toNat ∧
      (∀ k, k < prg → c.prgRom.read k = image.getD (p + k) 0) ∧
      (image.getD 5 0 ≠ 0 → c.chrIsRam = false ∧ ∀ k, k < chr → c.chr.read k = image.getD (p + prg + k) 0) ∧
      (image.getD 5 0 = 0 → c.chrIsRam = true ∧ ∀ k, k < 8192 → c.chr.read k = 0) ∧
      c.batteryPresent = h6.getLsbD 1 ∧ c.fourScreenLocked = h6.getLsbD 3 ∧ c.singleScreenPage = 0 ∧
      c.mirrorMode = if h6.getLsbD 3 then .fourScreen else if h6.getLsbD 0 then .vertical else .horizontal

/-- 40 R107 and R108: the one error of a bad image, in the order of the checks; nothing else changes. -/
def Obligations.LoadFails : Prop :=
  ∀ (s : State) (image : List Byte), s.fault = none →
    let h6 := image.getD 6 0
    let need := (16 + if h6.getLsbD 2 then 512 else 0) + (image.getD 4 0).toNat * 16384 + (image.getD 5 0).toNat * 8192
    let id : Byte := BitVec.ofNat 8 ((image.getD 7 0).toNat / 16 * 16 + h6.toNat / 16)
    let fails (e : Error) : Prop := exec (.load image) s = .next { s with result := .error e }
    (image.length < 16 → fails (.format .len)) ∧
    (16 ≤ image.length → image.take 4 ≠ [0x4E, 0x45, 0x53, 0x1A] → fails (.format .magic)) ∧
    (16 ≤ image.length → image.take 4 = [0x4E, 0x45, 0x53, 0x1A] →
      (image.getD 4 0 = 0 → fails (.format .prgBanks)) ∧
      (image.getD 4 0 ≠ 0 → image.length < need → fails (.format .len)) ∧
      (image.getD 4 0 ≠ 0 → need ≤ image.length → s.params.variantOf id = none → fails (.unsupportedMapper id)))

/-- 70 R286, R288, R292, R289: a successful load leaves the launch premises, with the values that are no draw, and
`SAVE_LOAD` keeps them. 70 R287, from the launch premises: the top of the address space shows the last bytes of `PrgRom`,
for MMC5 up to 64 program banks (log 18). -/
def Obligations.StateAfterLoad : Prop :=
  (∀ (s t : State) (image : List Byte) (c : Cartridge), exec (.load image) s = .next t → t.result = .ok →
    t.cart = some c →
    t.Launch image s.mirrors ∧
    (∀ r, c.mapper = .mmc5 r → r.prgMode = 3 ∧ r.prgBank[3] = 0xFF ∧ r.videoActive = false) ∧
    (∀ r, c.mapper = .mmc1 r → r.shiftValue = 0 ∧ r.shiftCount = 0 ∧ r.control.extractLsb' 2 2 = 0b11) ∧
    (∀ r, c.mapper = .mmc3 r → r.irqEnabled = false ∧ r.irqPending = false) ∧
    t.irqLine = false ∧ t.params = s.params ∧ t.store = s.store ∧ t.mirrors = s.mirrors ∧ t.events = s.events) ∧
  (∀ (s t : State) (image bytes : List Byte) (mirrors : List MirrorRegion), s.Launch image mirrors →
    exec (.saveload bytes) s = .next t → t.Launch image mirrors) ∧
  ∀ (s : State) (image : List Byte) (mirrors : List MirrorRegion) (c : Cartridge) (a : Addr), s.Launch image mirrors →
    s.cart = some c → s.params.cartBase ≤ a.toNat → 0xE000 ≤ a.toNat →
    (c.variant ∈ [Variant.uxrom, .camerica71, .mmc1, .mmc2, .mmc4, .mmc3] ∨
      (c.variant ∈ [Variant.nrom, .cnrom, .cprom] ∧ c.prgBanks ≤ 2) ∨
      (c.variant = .mmc5 ∧ ∃ k, k ≤ 6 ∧ c.prgBanks = 2 ^ k)) →
    exec (.busRCart a) s = .next (s.answered (c.prgRom.read (16384 * c.prgBanks + a.toNat - 0x10000)))

/-- 40 R111, 42 R145: `UNLOAD` empties the slot; `NAME` answers the variant's string and changes nothing, and is refused
without a cartridge. -/
def Obligations.UnloadAndName : Prop :=
  (∀ (s : State) (e : Error), s.fault = some e → exec .unload s = .refused .faulted) ∧
  (∀ s : State, s.fault = none → exec .unload s = .next { s with cart := none, result := .ok }) ∧
  (∀ s : State, s.fault = none → s.cart = none → exec .name s = .refused .noCartridge) ∧
  (∀ (s : State) (c : Cartridge), s.Serves c → exec .name s = .next { s with result := .name (variantName c.variant) }) ∧
  [Variant.nrom, .mmc1, .uxrom, .cnrom, .mmc3, .mmc5, .axrom, .mmc2, .mmc4, .colorDreams, .cprom, .m15, .gxrom,
    .camerica71].map variantName =
    ["NROM", "MMC1", "UxROM", "CNROM", "MMC3", "MMC5", "AxROM", "MMC2", "MMC4", "ColorDreams", "CPROM", "100-in-1", "GxROM",
      "Camerica71"]

/-- 40 R113 and R114: the persistence hooks, with the conditions under which they are refused. -/
def Obligations.SaveHooks : Prop :=
  ∀ (s : State) (bytes : List Byte), s.fault = none →
    (s.cart = none → exec (.saveload bytes) s = .refused .noCartridge ∧ exec .savedump s = .refused .noCartridge) ∧
    ∀ c, s.cart = some c →
      (c.batteryPresent = false →
        exec (.saveload bytes) s = .refused .noBattery ∧ exec .savedump s = .refused .noBattery) ∧
      (c.batteryPresent = true →
        (bytes.length ≠ s.params.prgRamSize c.variant → exec (.saveload bytes) s = .refused .badSaveLength) ∧
        (bytes.length = s.params.prgRamSize c.variant → ∃ m : Memory,
          exec (.saveload bytes) s = .next { s with cart := some { c with prgRam := m }, result := .ok } ∧
          ∀ i, i < s.params.prgRamSize c.variant → m.read i = bytes.getD i 0) ∧
        ∃ dump : List Byte, exec .savedump s = .next { s with result := .bytes dump } ∧
          dump.length = s.params.prgRamSize c.variant ∧
          ∀ i, i < s.params.prgRamSize c.variant → dump.getD i 0 = c.prgRam.read i)

/-! ## The mapper contract -/

/-- 42 R139: the bank-offset calculator never leaves the array. -/
def Obligations.BankOffsetInRange : Prop :=
  ∀ b S a lo len : Nat, 1 ≤ S → 1 ≤ len → bankOffset b S a lo len < len

/-- 20 R66, 70 R304: a canonical array reads a written byte back, and every other byte as before. -/
def Obligations.ArrayReadWrite : Prop :=
  ∀ (m : Memory) (i j : Nat) (v : Byte), m.wf = true → (m.write i v).read j = if j = i then v else m.read j

/-- 42 R141 and R142: an address that no row covers: a write is ignored, a read is open bus and changes nothing but its
result (the byte is free, log 5). -/
def Obligations.UnmappedRows : Prop :=
  ∀ (s : State) (c : Cartridge) (a : Addr) (d : Byte), s.Serves c → s.params.cartBase ≤ a.toNat →
    (findRow c.variant .cpuWrite a = none → exec (.genWUnmapped a d) s = .next { s with result := .ok }) ∧
    (findRow c.variant .cpuRead a = none → ∃ b : Byte,
      exec (.genRUnmapped a) s = .next { s with result := .data b, draws := s.draws + 1 })

/-- 42 R143 and R144: the plain program RAM window. -/
def Obligations.PrgRam6000 : Prop :=
  ∀ (s : State) (c : Cartridge) (a : Addr) (d : Byte), s.Serves c →
    c.variant ∈ [Variant.nrom, .uxrom, .cnrom, .axrom, .mmc2, .mmc4, .colorDreams, .cprom, .m15, .gxrom, .camerica71] →
    0x6000 ≤ a.toNat → a.toNat ≤ 0x7FFF →
    let index := bankOffset 0 8192 a.toNat 0x6000 (s.params.prgRamSize c.variant)
    exec (.genRPrgram6000 a) s = .next (s.answered (c.prgRam.read index)) ∧
    exec (.genWPrgram6000 a d) s = .next (s.stored { c with prgRam := c.prgRam.write index d }) ∧
    (s.params.prgRamSize c.variant = 8192 → index = a.toNat - 0x6000)

/-- 42 R146 and R148: one fixed 8K character bank, read-only when it is ROM. -/
def Obligations.Chr8Fixed : Prop :=
  ∀ (s : State) (c : Cartridge) (a : Addr) (d : Byte), s.Serves c → a.toNat ≤ 0x1FFF →
    (c.variant ∈ [Variant.nrom, .uxrom, .axrom, .m15, .camerica71] →
      exec (.genVrChr8fixed a) s = .next (s.answered (c.chr.read a.toNat))) ∧
    (c.variant ∈ [Variant.nrom, .uxrom, .axrom, .camerica71] →
      exec (.genVwChr8fixed a d) s =
        .next (if c.chrIsRam then s.stored { c with chr := c.chr.write a.toNat d } else s.errored (.illegalWrite a d)))

/-! ## MMC5 -/

/-- 43 R151 to R154 and R156: the mode and protect registers take the low two bits of the data. -/
def Obligations.Mmc5Modes : Prop :=
  ∀ (s : State) (c : Cartridge) (r : Mmc5) (d : Byte), s.Serves c → c.mapper = .mmc5 r →
    exec (.mmc5WPrgmode d) s = .next (s.stored { c with mapper := .mmc5 { r with prgMode := d.extractLsb' 0 2 } }) ∧
    exec (.mmc5WChrmode d) s = .next (s.stored { c with mapper := .mmc5 { r with chrMode := d.extractLsb' 0 2 } }) ∧
    exec (.mmc5WProtect1 d) s = .next (s.stored { c with mapper := .mmc5 { r with protect1 := d.extractLsb' 0 2 } }) ∧
    exec (.mmc5WProtect2 d) s = .next (s.stored { c with mapper := .mmc5 { r with protect2 := d.extractLsb' 0 2 } }) ∧
    exec (.mmc5WExrammode d) s = .next (s.stored { c with mapper := .mmc5 { r with exramMode := d.extractLsb' 0 2 } })

/-- 43 R157 to R164: the nametable and fill registers and the program bank registers. -/
def Obligations.Mmc5BankRegisters : Prop :=
  ∀ (s : State) (c : Cartridge) (r : Mmc5) (d : Byte), s.Serves c → c.mapper = .mmc5 r →
    exec (.mmc5WNtmap d) s = .next (s.stored { c with mapper := .mmc5 { r with
      ntSelect := #v[d.extractLsb' 0 2, d.extractLsb' 2 2, d.extractLsb' 4 2, d.extractLsb' 6 2] } }) ∧
    exec (.mmc5WFilltile d) s = .next (s.stored { c with mapper := .mmc5 { r with fillTile := d } }) ∧
    exec (.mmc5WFillattr d) s = .next (s.stored { c with mapper := .mmc5 { r with fillAttr := d.extractLsb' 0 2 } }) ∧
    exec (.mmc5WPrgrambank d) s = .next (s.stored { c with mapper := .mmc5 { r with prgRamBank := d.extractLsb' 0 7 } }) ∧
    exec (.mmc5WPrgbank0 d) s = .next (s.stored { c with mapper := .mmc5 { r with prgBank := r.prgBank.set 0 d } }) ∧
    exec (.mmc5WPrgbank1 d) s = .next (s.stored { c with mapper := .mmc5 { r with prgBank := r.prgBank.set 1 d } }) ∧
    exec (.mmc5WPrgbank2 d) s = .next (s.stored { c with mapper := .mmc5 { r with prgBank := r.prgBank.set 2 d } }) ∧
    exec (.mmc5WPrgbank3 d) s = .next (s.stored { c with mapper := .mmc5 { r with prgBank := r.prgBank.set 3 d } })

/-- 43 R165 to R167: a character bank register takes `chrUpper` at its own write and makes its set the one in use. -/
def Obligations.Mmc5ChrRegisters : Prop :=
  ∀ (s : State) (c : Cartridge) (r : Mmc5) (d : Byte), s.Serves c → c.mapper = .mmc5 r →
    (∀ (i : BitVec 3) (j : Fin 8), ∃ chrA : Vector (BitVec 10) 8,
      exec (.mmc5WChra i d) s = .next (s.stored { c with mapper := .mmc5 { r with chrA := chrA, lastChrSet := .a } }) ∧
      chrA[j] = if j.val = i.toNat then r.chrUpper ++ d else r.chrA[j]) ∧
    (∀ (i : BitVec 2) (j : Fin 4), ∃ chrB : Vector (BitVec 10) 4,
      exec (.mmc5WChrb i d) s = .next (s.stored { c with mapper := .mmc5 { r with chrB := chrB, lastChrSet := .b } }) ∧
      chrB[j] = if j.val = i.toNat then r.chrUpper ++ d else r.chrB[j]) ∧
    exec (.mmc5WChrupper d) s = .next (s.stored { c with mapper := .mmc5 { r with chrUpper := d.extractLsb' 0 2 } })

/-- 43 R168 to R172: the product is the exact product of the factors, recomputed at each factor write and read in two
bytes. -/
def Obligations.Mmc5Multiplier : Prop :=
  ∀ (s : State) (c : Cartridge) (r : Mmc5) (d : Byte), s.Serves c → c.mapper = .mmc5 r →
    (∃ p : BitVec 16, p.toNat = d.toNat * r.factor2.toNat ∧
      exec (.mmc5WMult1 d) s = .next (s.stored { c with mapper := .mmc5 { r with factor1 := d, product := p } })) ∧
    (∃ p : BitVec 16, p.toNat = r.factor1.toNat * d.toNat ∧
      exec (.mmc5WMult2 d) s = .next (s.stored { c with mapper := .mmc5 { r with factor2 := d, product := p } })) ∧
    (∃ b : Byte, b.toNat = r.product.toNat % 256 ∧ exec .mmc5RProdlo s = .next (s.answered b)) ∧
    (∃ b : Byte, b.toNat = r.product.toNat / 256 ∧ exec .mmc5RProdhi s = .next (s.answered b))

/-- 44 R173 and R176: the byte that each window of each program mode shows. -/
def Obligations.Mmc5ProgramReads : Prop :=
  ∀ (s : State) (c : Cartridge) (r : Mmc5) (a : Addr), s.Serves c → c.mapper = .mmc5 r → 0x8000 ≤ a.toNat →
    let index (reg : Byte) (S lo len : Nat) := bankOffset (reg.toNat % 128 / (S / 8192)) S a.toNat lo len
    let shows (b : Byte) : Prop := exec (.mmc5RPrg a) s = .next (s.answered b)
    let rom (reg : Byte) (S lo : Nat) : Prop := shows (c.prgRom.read (index reg S lo c.prgLen))
    let either (reg : Byte) (S lo : Nat) : Prop :=
      shows (if reg.getLsbD 7 then c.prgRom.read (index reg S lo c.prgLen)
        else c.prgRam.read (index reg S lo (s.params.prgRamSize .mmc5)))
    (r.prgMode = 0 → rom r.prgBank[3] 32768 0x8000) ∧
    (r.prgMode = 1 →
      (a.toNat < 0xC000 → either r.prgBank[1] 16384 0x8000) ∧ (0xC000 ≤ a.toNat → rom r.prgBank[3] 16384 0xC000)) ∧
    (r.prgMode = 2 →
      (a.toNat < 0xC000 → either r.prgBank[1] 16384 0x8000) ∧
      (0xC000 ≤ a.toNat → a.toNat < 0xE000 → either r.prgBank[2] 8192 0xC000) ∧
      (0xE000 ≤ a.toNat → rom r.prgBank[3] 8192 0xE000)) ∧
    (r.prgMode = 3 →
      (a.toNat < 0xA000 → either r.prgBank[0] 8192 0x8000) ∧
      (0xA000 ≤ a.toNat → a.toNat < 0xC000 → either r.prgBank[1] 8192 0xA000) ∧
      (0xC000 ≤ a.toNat → a.toNat < 0xE000 → either r.prgBank[2] 8192 0xC000) ∧
      (0xE000 ≤ a.toNat → rom r.prgBank[3] 8192 0xE000))

/-- 44 R177 and R178: a write to a program window: ROM first, then the protect latch, then the store. -/
def Obligations.Mmc5ProgramWrites : Prop :=
  ∀ (s : State) (c : Cartridge) (r : Mmc5) (a : Addr) (d : Byte), s.Serves c → c.mapper = .mmc5 r → 0x8000 ≤ a.toNat →
    let w := prgWindow r a.toNat
    (w.rom = true → exec (.mmc5WPrg a d) s = .next (s.errored (.illegalWrite a d))) ∧
    (w.rom = false → ¬(r.protect1 = 0b10 ∧ r.protect2 = 0b01) →
      exec (.mmc5WPrg a d) s = .next (s.errored (.writeProtected a d))) ∧
    (w.rom = false → r.protect1 = 0b10 → r.protect2 = 0b01 →
      exec (.mmc5WPrg a d) s =
        .next (s.stored { c with
          prgRam := c.prgRam.write (bankOffset (w.reg.toNat % 128 / (w.size / 8192)) w.size a.toNat w.lo
            (s.params.prgRamSize .mmc5)) d }))

/-- 44 R174 and R175: the banked RAM window at 0x6000 and its latch. -/
def Obligations.Mmc5RamWindow : Prop :=
  ∀ (s : State) (c : Cartridge) (r : Mmc5) (a : Addr) (d : Byte), s.Serves c → c.mapper = .mmc5 r →
    0x6000 ≤ a.toNat → a.toNat ≤ 0x7FFF →
    let index := bankOffset r.prgRamBank.toNat 8192 a.toNat 0x6000 (s.params.prgRamSize .mmc5)
    (s.params.prgRamSize .mmc5 = 65536 → index = r.prgRamBank.toNat % 8 * 8192 + (a.toNat - 0x6000)) ∧
    exec (.mmc5RPrgram6000 a) s = .next (s.answered (c.prgRam.read index)) ∧
    (r.protect1 = 0b10 → r.protect2 = 0b01 →
      exec (.mmc5WPrgram6000 a d) s = .next (s.stored { c with prgRam := c.prgRam.write index d })) ∧
    (¬(r.protect1 = 0b10 ∧ r.protect2 = 0b01) →
      exec (.mmc5WPrgram6000 a d) s = .next (s.errored (.writeProtected a d)))

/-- 44 R180: in program mode 0 every write to 0x8000..0xFFFF is an illegal write, also through the bus. -/
def Obligations.Mmc5ModeZeroWritesFail : Prop :=
  ∀ (s : State) (c : Cartridge) (r : Mmc5) (a : Addr) (d : Byte), s.Serves c → c.mapper = .mmc5 r → r.prgMode = 0 →
    0x8000 ≤ a.toNat →
    exec (.mmc5WPrg a d) s = .next (s.errored (.illegalWrite a d)) ∧
    (s.params.cartBase ≤ a.toNat → exec (.busWCart a d) s = .next (s.errored (.illegalWrite a d)))

/-- 44 R179, for the program ROMs of up to 64 banks whose bank count is a power of two (log 18): with `prgBank[3] = 0xFF`
the top 8K shows the last 8K of `PrgRom` in every mode. -/
def Obligations.Mmc5TopBank : Prop :=
  ∀ (s : State) (c : Cartridge) (r : Mmc5) (a : Addr) (k : Nat), s.Serves c → c.mapper = .mmc5 r →
    r.prgBank[3] = 0xFF → k ≤ 6 → c.prgBanks = 2 ^ k → 0xE000 ≤ a.toNat →
    exec (.mmc5RPrg a) s = .next (s.answered (c.prgRom.read (16384 * c.prgBanks + a.toNat - 0x10000)))

/-- 44 R182 to R184: the character bank that each window of each mode and set selects, and the accesses through it. -/
def Obligations.Mmc5ChrWindows : Prop :=
  ∀ (s : State) (c : Cartridge) (r : Mmc5) (a : Addr) (d : Byte), s.Serves c → c.mapper = .mmc5 r → a.toNat ≤ 0x1FFF →
    let n := a.toNat
    let bank (reg : BitVec 10) (Z lo : Nat) : Prop := mmc5ChrIndex c r n = bankOffset reg.toNat Z n lo c.chrLen
    exec (.mmc5VrChr a) s = .next (s.answered (c.chr.read (mmc5ChrIndex c r n))) ∧
    exec (.mmc5VwChr a d) s =
      .next (if c.chrIsRam then s.stored { c with chr := c.chr.write (mmc5ChrIndex c r n) d }
        else s.errored (.illegalWrite a d)) ∧
    (r.lastChrSet = .a →
      (r.chrMode = 0 → bank r.chrA[7] 8192 0x0000) ∧
      (r.chrMode = 1 → bank (if n < 0x1000 then r.chrA[3] else r.chrA[7]) 4096 (n / 4096 * 4096)) ∧
      (r.chrMode = 2 →
        bank (if n < 0x0800 then r.chrA[1] else if n < 0x1000 then r.chrA[3] else if n < 0x1800 then r.chrA[5] else r.chrA[7])
          2048 (n / 2048 * 2048)) ∧
      (r.chrMode = 3 → ∀ i : Fin 8, n / 1024 = i.val → bank r.chrA[i] 1024 (1024 * i.val))) ∧
    (r.lastChrSet = .b →
      (r.chrMode = 0 → bank r.chrB[3] 8192 0x0000) ∧
      (r.chrMode = 1 → bank r.chrB[3] 4096 (n / 4096 * 4096)) ∧
      (r.chrMode = 2 → bank (if n % 4096 < 0x0800 then r.chrB[1] else r.chrB[3]) 2048 (n / 2048 * 2048)) ∧
      (r.chrMode = 3 → ∀ i : Fin 4, n % 4096 / 1024 = i.val → bank r.chrB[i] 1024 (n / 1024 * 1024)))

/-- 44 R186 and R187: expansion RAM by its mode; a discarded write is no error, an unreadable byte is open bus. -/
def Obligations.Mmc5ExRam : Prop :=
  ∀ (s : State) (c : Cartridge) (r : Mmc5) (a : Addr) (d : Byte), s.Serves c → c.mapper = .mmc5 r →
    0x5C00 ≤ a.toNat → a.toNat ≤ 0x5FFF →
    let written := s.stored { c with mapper := .mmc5 { r with exRam := r.exRam.write (a.toNat - 0x5C00) d } }
    (r.exramMode = 2 ∨ r.exramMode = 3 →
      exec (.mmc5RExram a) s = .next (s.answered (r.exRam.read (a.toNat - 0x5C00)))) ∧
    (r.exramMode = 0 ∨ r.exramMode = 1 → ∃ b : Byte,
      exec (.mmc5RExram a) s = .next { s with result := .data b, draws := s.draws + 1 }) ∧
    (r.exramMode = 2 → exec (.mmc5WExram a d) s = .next written) ∧
    (r.exramMode = 3 → exec (.mmc5WExram a d) s = .next { s with result := .ok }) ∧
    (r.exramMode = 0 ∨ r.exramMode = 1 →
      exec (.mmc5WExram a d) s = .next (if r.videoActive then written else { s with result := .ok }))

/-- 44 R188, 42 R149: the video-cycle notification of the representative chip and of the variants that ignore it. -/
def Obligations.VideoCycles : Prop :=
  ∀ (s : State) (c : Cartridge) (sl cy : BitVec 16) (bg sp : Bool), s.Serves c →
    let active := decide (s.params.visibleFirst ≤ sl.toInt ∧ sl.toInt ≤ s.params.visibleLast)
    (∀ r, c.mapper = .mmc5 r → exec (.mmc5Vc sl cy bg sp) s =
      .next { s with
        cart := some { c with mapper := .mmc5 { r with videoActive := active } }
        result := .nothing }) ∧
    (c.variant ∈ [Variant.nrom, .mmc1, .uxrom, .cnrom, .axrom, .mmc2, .mmc4, .colorDreams, .cprom, .m15, .gxrom,
        .camerica71] →
      exec (.genVcNop sl cy bg sp) s = .next { s with result := .nothing })

/-! ## Simple variants -/

/-- 45 R189: the fixed 32K program window; a 16K image repeats. -/
def Obligations.FixedProgramWindow : Prop :=
  ∀ (s : State) (c : Cartridge) (a : Addr), s.Serves c → c.variant ∈ [Variant.nrom, .cnrom, .cprom] → 1 ≤ c.prgBanks →
    0x8000 ≤ a.toNat →
    exec (.nromRPrg a) s =
      .next (s.answered (c.prgRom.read (if c.prgBanks = 1 then (a.toNat - 0x8000) % 16384 else a.toNat - 0x8000)))

/-- 45 R190 and R216, 46 R229: a write to a ROM window that decodes as no register is an illegal write. -/
def Obligations.RomWindowWrites : Prop :=
  ∀ (s : State) (c : Cartridge) (a : Addr) (d : Byte), s.Serves c →
    (c.mapper = .nrom → 0x8000 ≤ a.toNat → exec (.nromWPrg a d) s = .next (s.errored (.illegalWrite a d))) ∧
    (∀ b, c.mapper = .camerica71 b → 0xA000 ≤ a.toNat → a.toNat ≤ 0xBFFF →
      exec (.c71WRom a d) s = .next (s.errored (.illegalWrite a d))) ∧
    (∀ r, c.mapper = .mmc2 r ∨ c.mapper = .mmc4 r → 0x8000 ≤ a.toNat → a.toNat ≤ 0x9FFF →
      exec (.mmc24WRom a d) s = .next (s.errored (.illegalWrite a d)))

/-- 30 R93, 42 R147: a video write to character ROM is an illegal write, for every variant. -/
def Obligations.ChrRomWrites : Prop :=
  ∀ (s : State) (c : Cartridge) (a : Addr) (d : Byte), s.Serves c → a.toNat ≤ 0x1FFF → c.chrIsRam = false →
    ∃ i : Instr, mapperRow s.params c.variant .vidWrite a d = some i ∧ exec i s = .next (s.errored (.illegalWrite a d))

/-- 45 R193, R195, R201, R204, R211, R217: a bank register takes the whole data byte; CNROM and CPROM read their program
as NROM does. -/
def Obligations.SimpleRegisterWrites : Prop :=
  ∀ (s : State) (c : Cartridge) (b : Byte) (a : Addr) (d : Byte), s.Serves c → 0x8000 ≤ a.toNat →
    let nromReads := s.params.cartBase ≤ a.toNat → mapperRow s.params c.variant .cpuRead a 0 = some (.nromRPrg a)
    (c.mapper = .uxrom b → exec (.uxromWBank a d) s = .next (s.stored { c with mapper := .uxrom d })) ∧
    (c.mapper = .cnrom b → exec (.cnromWBank a d) s = .next (s.stored { c with mapper := .cnrom d }) ∧ nromReads) ∧
    (c.mapper = .colorDreams b → exec (.cdWReg a d) s = .next (s.stored { c with mapper := .colorDreams d })) ∧
    (c.mapper = .cprom b → exec (.cpromWReg a d) s = .next (s.stored { c with mapper := .cprom d }) ∧ nromReads) ∧
    (c.mapper = .gxrom b → exec (.gxWReg a d) s = .next (s.stored { c with mapper := .gxrom d })) ∧
    (c.mapper = .camerica71 b → 0xC000 ≤ a.toNat →
      exec (.c71WBank a d) s = .next (s.stored { c with mapper := .camerica71 d }))

/-- 42 R150, 45 R199, R207, R215, 46 R235, R245: the writes that set mirroring: the registers they write, the mirroring
unless the header locked it, and the event when it changes. -/
def Obligations.MirrorWrites : Prop :=
  ∀ (s : State) (c : Cartridge) (a : Addr) (d : Byte), s.Serves c →
    let sets (i : Instr) (m : Mapper) (mode : MirrorMode) (page : BitVec 1) : Prop :=
      exec i s =
        .next { s with
          cart := some ({ c with mapper := m }.mirrored mode page)
          events := s.events ++ c.mirrorEvents mode page
          result := .ok }
    let byBit (b : Bool) : MirrorMode := if b then .horizontal else .vertical
    (∀ b, c.mapper = .axrom b → 0x8000 ≤ a.toNat →
      sets (.axromWReg a d) (.axrom d) .singleScreen (d.extractLsb' 4 1)) ∧
    (∀ b m, c.mapper = .m15 b m → 0x8000 ≤ a.toNat →
      sets (.m15WReg a d) (.m15 d (a.extractLsb' 0 2)) (byBit (d.getLsbD 6)) 0) ∧
    (∀ b, c.mapper = .camerica71 b → 0x8000 ≤ a.toNat → a.toNat ≤ 0x9FFF →
      sets (.c71WMirror a d) c.mapper .singleScreen (d.extractLsb' 4 1)) ∧
    (∀ r, c.mapper = .mmc2 r ∨ c.mapper = .mmc4 r → 0xF000 ≤ a.toNat →
      sets (.mmc24WMirror a d) c.mapper (byBit (d.getLsbD 0)) 0) ∧
    (∀ r, c.mapper = .mmc3 r → 0xA000 ≤ a.toNat → a.toNat ≤ 0xBFFF → a.toNat % 2 = 0 →
      sets (.mmc3WMirror a d) c.mapper (byBit (d.getLsbD 0)) 0)

/-- 45 R192, R198, R200, R208, R210, R214: the program bytes of the discrete-logic variants. -/
def Obligations.SimpleProgramReads : Prop :=
  ∀ (s : State) (c : Cartridge) (b : Byte) (a : Addr), s.Serves c → 0x8000 ≤ a.toNat →
    let n := a.toNat
    let rom (i : Instr) (bank S lo : Nat) : Prop :=
      exec i s = .next (s.answered (c.prgRom.read (bankOffset bank S n lo c.prgLen)))
    let lowHigh (i : Instr) : Prop :=
      (n < 0xC000 → rom i b.toNat 16384 0x8000) ∧ (0xC000 ≤ n → rom i (c.prgBanks - 1) 16384 0xC000)
    (c.mapper = .uxrom b → lowHigh (.uxromRPrg a)) ∧
    (c.mapper = .camerica71 b → lowHigh (.c71RPrg a)) ∧
    (c.mapper = .axrom b → rom (.axromRPrg a) (b.toNat % 8) 32768 0x8000) ∧
    (c.mapper = .colorDreams b → rom (.cdRPrg a) (b.toNat % 4) 32768 0x8000) ∧
    (c.mapper = .gxrom b → rom (.gxRPrg a) (b.toNat / 16 % 4) 32768 0x8000) ∧
    (c.mapper = .m15 b 0 → (n < 0xC000 → rom (.m15RPrg a) (b.toNat % 64) 16384 0x8000) ∧
      (0xC000 ≤ n → rom (.m15RPrg a) (b.toNat % 64 ||| 1) 16384 0xC000)) ∧
    (c.mapper = .m15 b 1 → (n < 0xC000 → rom (.m15RPrg a) (b.toNat % 64) 16384 0x8000) ∧
      (0xC000 ≤ n → rom (.m15RPrg a) (b.toNat % 64 ||| 7) 16384 0xC000)) ∧
    (c.mapper = .m15 b 2 →
      rom (.m15RPrg a) (2 * (b.toNat % 64) + b.toNat / 128) 8192 (0x8000 + 8192 * ((n - 0x8000) / 8192))) ∧
    (c.mapper = .m15 b 3 →
      rom (.m15RPrg a) (b.toNat % 64) 16384 (if n < 0xC000 then 0x8000 else 0xC000))

/-- 45 R196, R197, R202, R203, R205, R206, R209, R212, R213: character accesses of the discrete-logic variants. -/
def Obligations.SimpleChr : Prop :=
  ∀ (s : State) (c : Cartridge) (b : Byte) (a : Addr) (d : Byte), s.Serves c → a.toNat ≤ 0x1FFF →
    let n := a.toNat
    let writes (i : Instr) (off : Nat) : Prop :=
      exec i s =
        .next (if c.chrIsRam then s.stored { c with chr := c.chr.write off d } else s.errored (.illegalWrite a d))
    let both (i j : Instr) (bank S lo : Nat) : Prop :=
      exec i s = .next (s.answered (c.chr.read (bankOffset bank S n lo c.chrLen))) ∧
        writes j (bankOffset bank S n lo c.chrLen)
    (c.mapper = .cnrom b → both (.cnromVrChr a) (.cnromVwChr a d) b.toNat 8192 0) ∧
    (c.mapper = .colorDreams b → both (.cdVrChr a) (.cdVwChr a d) (b.toNat / 16) 8192 0) ∧
    (c.mapper = .gxrom b → both (.gxVrChr a) (.gxVwChr a d) (b.toNat % 4) 8192 0) ∧
    (c.mapper = .cprom b → (n < 0x1000 → both (.cpromVrChr a) (.cpromVwChr a d) 0 4096 0) ∧
      (0x1000 ≤ n → both (.cpromVrChr a) (.cpromVwChr a d) (b.toNat % 4) 4096 0x1000)) ∧
    (∀ m : BitVec 2, c.mapper = .m15 b m →
      exec (.genVrChr8fixed a) s = .next (s.answered (c.chr.read n)) ∧
      (m = 0 ∨ m = 3 → exec (.m15VwChr a d) s = .next (s.errored (.illegalWrite a d))) ∧
      (m = 1 ∨ m = 2 → writes (.m15VwChr a d) n))

/-! ## MMC1 -/

/-- 46 R221, R222: one write of the serial port: the reset, the four shifts, the commit by `a[14:13]`. -/
def Obligations.Mmc1Serial : Prop :=
  ∀ (s : State) (c : Cartridge) (r : Mmc1) (a : Addr) (d : Byte), s.Serves c → c.mapper = .mmc1 r → 0x8000 ≤ a.toNat →
    let v : BitVec 5 := r.shiftValue ||| if d.getLsbD 0 then 1#5 <<< r.shiftCount.val else 0
    let empty : Mmc1 := { r with shiftValue := 0, shiftCount := 0 }
    let becomes (q : Mmc1) : Prop := exec (.mmc1WSerial a d) s = .next (s.stored { c with mapper := .mmc1 q })
    let mirrors (mode : MirrorMode) (page : BitVec 1) : Prop :=
      exec (.mmc1WSerial a d) s =
        .next { s with
          cart := some ({ c with mapper := .mmc1 { empty with control := v } }.mirrored mode page)
          events := s.events ++ c.mirrorEvents mode page
          result := .ok }
    (d.getLsbD 7 = true → becomes { empty with control := r.control ||| 0x0C }) ∧
    (d.getLsbD 7 = false → r.shiftCount.val < 4 → becomes { r with shiftValue := v, shiftCount := r.shiftCount + 1 }) ∧
    (d.getLsbD 7 = false → r.shiftCount = 4 →
      (a.toNat < 0xA000 →
        (v.extractLsb' 0 2 = 0 → mirrors .singleScreen 0) ∧ (v.extractLsb' 0 2 = 1 → mirrors .singleScreen 1) ∧
        (v.extractLsb' 0 2 = 2 → mirrors .vertical 0) ∧ (v.extractLsb' 0 2 = 3 → mirrors .horizontal 0)) ∧
      (0xA000 ≤ a.toNat → a.toNat < 0xC000 → becomes { empty with chr0 := v }) ∧
      (0xC000 ≤ a.toNat → a.toNat < 0xE000 → becomes { empty with chr1 := v }) ∧
      (0xE000 ≤ a.toNat → becomes { empty with prg := v }))

/-- 30 R81, 46 R221: five writes from an empty shift register assemble bit 0 of each, first write in bit 0, and the fifth
address alone selects the register; where it selects `control`, the mirroring is that of its low two bits (R222). -/
def Obligations.Mmc1FiveWrites : Prop :=
  ∀ (s : State) (c : Cartridge) (r : Mmc1) (a₀ a₁ a₂ a₃ a₄ : Addr) (d₀ d₁ d₂ d₃ d₄ : Byte), s.Serves c →
    c.mapper = .mmc1 r → r.shiftValue = 0 → r.shiftCount = 0 →
    (∀ a ∈ [a₀, a₁, a₂, a₃, a₄], 0x8000 ≤ a.toNat) → (∀ d ∈ [d₀, d₁, d₂, d₃, d₄], d.getLsbD 7 = false) →
    let writes : List Instr := [.mmc1WSerial a₀ d₀, .mmc1WSerial a₁ d₁, .mmc1WSerial a₂ d₂, .mmc1WSerial a₃ d₃,
      .mmc1WSerial a₄ d₄]
    let v : BitVec 5 := BitVec.ofBool (d₄.getLsbD 0) ++ BitVec.ofBool (d₃.getLsbD 0) ++ BitVec.ofBool (d₂.getLsbD 0) ++
      BitVec.ofBool (d₁.getLsbD 0) ++ BitVec.ofBool (d₀.getLsbD 0)
    let mirrors (mode : MirrorMode) (page : BitVec 1) : Prop :=
      execAll writes s =
        .next { s with
          cart := some ({ c with mapper := .mmc1 { r with control := v } }.mirrored mode page)
          events := s.events ++ c.mirrorEvents mode page
          result := .ok }
    (a₄.toNat < 0xA000 →
      (v.extractLsb' 0 2 = 0 → mirrors .singleScreen 0) ∧ (v.extractLsb' 0 2 = 1 → mirrors .singleScreen 1) ∧
      (v.extractLsb' 0 2 = 2 → mirrors .vertical 0) ∧ (v.extractLsb' 0 2 = 3 → mirrors .horizontal 0)) ∧
    (0xA000 ≤ a₄.toNat → a₄.toNat < 0xC000 →
      execAll writes s = .next (s.stored { c with mapper := .mmc1 { r with chr0 := v } })) ∧
    (0xC000 ≤ a₄.toNat → a₄.toNat < 0xE000 →
      execAll writes s = .next (s.stored { c with mapper := .mmc1 { r with chr1 := v } })) ∧
    (0xE000 ≤ a₄.toNat → execAll writes s = .next (s.stored { c with mapper := .mmc1 { r with prg := v } }))

/-- 46 R223 to R227: the program, program RAM and character windows of MMC1. -/
def Obligations.Mmc1Windows : Prop :=
  ∀ (s : State) (c : Cartridge) (r : Mmc1) (a : Addr) (d : Byte), s.Serves c → c.mapper = .mmc1 r →
    let n := a.toNat
    let k := r.prg.toNat % 16
    let index := bankOffset 0 8192 n 0x6000 (s.params.prgRamSize .mmc1)
    let rom (bank S lo : Nat) : Prop :=
      exec (.mmc1RPrg a) s = .next (s.answered (c.prgRom.read (bankOffset bank S n lo c.prgLen)))
    let chr (bank S lo : Nat) : Prop :=
      exec (.mmc1VrChr a) s = .next (s.answered (c.chr.read (bankOffset bank S n lo c.chrLen))) ∧
      exec (.mmc1VwChr a d) s =
        .next (if c.chrIsRam then s.stored { c with chr := c.chr.write (bankOffset bank S n lo c.chrLen) d }
          else s.errored (.illegalWrite a d))
    (0x8000 ≤ n → r.control.toNat / 4 % 4 < 2 → rom (k / 2) 32768 0x8000) ∧
    (0x8000 ≤ n → r.control.toNat / 4 % 4 = 2 →
      (n < 0xC000 → rom 0 16384 0x8000) ∧ (0xC000 ≤ n → rom k 16384 0xC000)) ∧
    (0x8000 ≤ n → r.control.toNat / 4 % 4 = 3 →
      (n < 0xC000 → rom k 16384 0x8000) ∧ (0xC000 ≤ n → rom (c.prgBanks - 1) 16384 0xC000)) ∧
    (0x6000 ≤ n → n ≤ 0x7FFF → r.prg.getLsbD 4 = false →
      exec (.mmc1RPrgram a) s = .next (s.answered (c.prgRam.read index)) ∧
      exec (.mmc1WPrgram a d) s = .next (s.stored { c with prgRam := c.prgRam.write index d })) ∧
    (0x6000 ≤ n → n ≤ 0x7FFF → r.prg.getLsbD 4 = true →
      (∃ b : Byte, exec (.mmc1RPrgram a) s = .next { s with result := .data b, draws := s.draws + 1 }) ∧
      exec (.mmc1WPrgram a d) s = .next (s.errored (.writeProtected a d))) ∧
    (n ≤ 0x1FFF → r.control.getLsbD 4 = false → chr (r.chr0.toNat / 2) 8192 0) ∧
    (n ≤ 0x1FFF → r.control.getLsbD 4 = true →
      (n < 0x1000 → chr r.chr0.toNat 4096 0) ∧ (0x1000 ≤ n → chr r.chr1.toNat 4096 0x1000))

/-! ## MMC2 and MMC4 -/

/-- 46 R230 to R234: the bank registers of MMC2 and MMC4. -/
def Obligations.Mmc24Registers : Prop :=
  ∀ (s : State) (c : Cartridge) (m : Mmc24 → Mapper) (r : Mmc24) (a : Addr) (d : Byte), s.Serves c →
    m = Mapper.mmc2 ∨ m = Mapper.mmc4 → c.mapper = m r →
    let n := a.toNat
    let becomes (i : Instr) (q : Mmc24) : Prop := exec i s = .next (s.stored { c with mapper := m q })
    (0xA000 ≤ n → n ≤ 0xAFFF → becomes (.mmc24WPrgsel a d) { r with prgSel := d }) ∧
    (0xB000 ≤ n → n ≤ 0xBFFF → becomes (.mmc24WChr0fd a d) { r with chr0FD := d }) ∧
    (0xC000 ≤ n → n ≤ 0xCFFF → becomes (.mmc24WChr0fe a d) { r with chr0FE := d }) ∧
    (0xD000 ≤ n → n ≤ 0xDFFF → becomes (.mmc24WChr1fd a d) { r with chr1FD := d }) ∧
    (0xE000 ≤ n → n ≤ 0xEFFF → becomes (.mmc24WChr1fe a d) { r with chr1FE := d })

/-- 46 R236 to R242: the program windows of MMC2 and MMC4, and their video accesses: the byte is the one of the latches
before the read, the trigger addresses move a latch after it, and a write moves none. -/
def Obligations.Mmc24Windows : Prop :=
  ∀ (s : State) (c : Cartridge) (r : Mmc24) (a : Addr) (d : Byte), s.Serves c →
    let n := a.toNat
    let rom (i : Instr) (bank S lo : Nat) : Prop :=
      exec i s = .next (s.answered (c.prgRom.read (bankOffset bank S n lo c.prgLen)))
    let low := if r.latch0 = .fd then r.chr0FD.toNat % 32 else r.chr0FE.toNat % 32
    let high := if r.latch1 = .fd then r.chr1FD.toNat % 32 else r.chr1FE.toNat % 32
    let off := if n < 0x1000 then bankOffset low 4096 n 0 c.chrLen else bankOffset high 4096 n 0x1000 c.chrLen
    let latches (i : Instr) (m : Mapper) : Prop :=
      exec i s = .next { s with cart := some { c with mapper := m }, result := .data (c.chr.read off) }
    (c.mapper = .mmc2 r → 0x8000 ≤ n → 1 ≤ c.prgBanks →
      (n < 0xA000 → rom (.mmc2RPrg a) (r.prgSel.toNat % 16) 8192 0x8000) ∧
      (0xA000 ≤ n → n < 0xC000 → rom (.mmc2RPrg a) ((4 * c.prgBanks - 3) % (2 * c.prgBanks)) 8192 0xA000) ∧
      (0xC000 ≤ n → n < 0xE000 → rom (.mmc2RPrg a) (2 * c.prgBanks - 2) 8192 0xC000) ∧
      (0xE000 ≤ n → rom (.mmc2RPrg a) (2 * c.prgBanks - 1) 8192 0xE000)) ∧
    (c.mapper = .mmc4 r → 0x8000 ≤ n →
      (n < 0xC000 → rom (.mmc4RPrg a) (r.prgSel.toNat % 16) 16384 0x8000) ∧
      (0xC000 ≤ n → rom (.mmc4RPrg a) (c.prgBanks - 1) 16384 0xC000)) ∧
    (c.mapper = .mmc2 r → n ≤ 0x1FFF →
      latches (.mmc2VrChr a) (.mmc2 (if n = 0x0FD8 then { r with latch0 := .fd }
        else if n = 0x0FE8 then { r with latch0 := .fe }
        else if 0x1FD8 ≤ n ∧ n ≤ 0x1FDF then { r with latch1 := .fd }
        else if 0x1FE8 ≤ n ∧ n ≤ 0x1FEF then { r with latch1 := .fe } else r))) ∧
    (c.mapper = .mmc4 r → n ≤ 0x1FFF →
      latches (.mmc4VrChr a) (.mmc4 (if 0x0FD8 ≤ n ∧ n ≤ 0x0FDF then { r with latch0 := .fd }
        else if 0x0FE8 ≤ n ∧ n ≤ 0x0FEF then { r with latch0 := .fe }
        else if 0x1FD8 ≤ n ∧ n ≤ 0x1FDF then { r with latch1 := .fd }
        else if 0x1FE8 ≤ n ∧ n ≤ 0x1FEF then { r with latch1 := .fe } else r))) ∧
    (c.mapper = .mmc2 r ∨ c.mapper = .mmc4 r → n ≤ 0x1FFF →
      exec (.mmc24VwChr a d) s =
        .next (if c.chrIsRam then s.stored { c with chr := c.chr.write off d } else s.errored (.illegalWrite a d)))

/-! ## MMC3 -/

/-- 46 R243, R244, R246 to R250: the registers of MMC3, by range and parity. -/
def Obligations.Mmc3Registers : Prop :=
  ∀ (s : State) (c : Cartridge) (r : Mmc3) (a : Addr) (d : Byte), s.Serves c → c.mapper = .mmc3 r →
    let n := a.toNat
    let becomes (i : Instr) (q : Mmc3) : Prop := exec i s = .next (s.stored { c with mapper := .mmc3 q })
    (0x8000 ≤ n → n ≤ 0x9FFF → n % 2 = 0 → becomes (.mmc3WBankselect a d) { r with bankSelect := d }) ∧
    (0x8000 ≤ n → n ≤ 0x9FFF → n % 2 = 1 → ∃ regs : Vector Byte 8,
      becomes (.mmc3WBankdata a d) { r with regs := regs } ∧
      ∀ j : Fin 8, regs[j] = if j.val = r.bankSelect.toNat % 8 then d else r.regs[j]) ∧
    (0xA000 ≤ n → n ≤ 0xBFFF → n % 2 = 1 →
      becomes (.mmc3WRamprotect a d) { r with ramEnable := d.getLsbD 7, ramDeny := d.getLsbD 6 }) ∧
    (0xC000 ≤ n → n ≤ 0xDFFF → n % 2 = 0 → becomes (.mmc3WIrqlatch a d) { r with irqLatch := d }) ∧
    (0xC000 ≤ n → n ≤ 0xDFFF → n % 2 = 1 →
      becomes (.mmc3WIrqreload a d) { r with irqCounter := 0, irqReload := true }) ∧
    (0xE000 ≤ n → n % 2 = 0 →
      becomes (.mmc3WIrqdisable a d) { r with irqEnabled := false, irqPending := false }) ∧
    (0xE000 ≤ n → n % 2 = 1 → becomes (.mmc3WIrqenable a d) { r with irqEnabled := true })

/-- 46 R251 to R253, R255, R256: the program, character and program RAM windows of MMC3. -/
def Obligations.Mmc3Windows : Prop :=
  ∀ (s : State) (c : Cartridge) (r : Mmc3) (a : Addr) (d : Byte), s.Serves c → c.mapper = .mmc3 r →
    let n := a.toNat
    let rom (bank lo : Nat) : Prop :=
      exec (.mmc3RPrg a) s = .next (s.answered (c.prgRom.read (bankOffset bank 8192 n lo c.prgLen)))
    let chr (bank : Nat) : Prop :=
      let off := bankOffset bank 1024 n (1024 * (n / 1024)) c.chrLen
      exec (.mmc3VrChr a) s = .next (s.answered (c.chr.read off)) ∧
      exec (.mmc3VwChr a d) s =
        .next (if c.chrIsRam then s.stored { c with chr := c.chr.write off d } else s.errored (.illegalWrite a d))
    let index := bankOffset 0 8192 n 0x6000 (s.params.prgRamSize .mmc3)
    let swap := r.bankSelect.getLsbD 6
    let n' := if r.bankSelect.getLsbD 7 then (n + 0x1000) % 0x2000 else n
    (0x8000 ≤ n → n < 0xA000 → rom (if swap then 2 * c.prgBanks - 2 else r.regs[6].toNat) 0x8000) ∧
    (0xA000 ≤ n → n < 0xC000 → rom r.regs[7].toNat 0xA000) ∧
    (0xC000 ≤ n → n < 0xE000 → rom (if swap then r.regs[6].toNat else 2 * c.prgBanks - 2) 0xC000) ∧
    (0xE000 ≤ n → rom (2 * c.prgBanks - 1) 0xE000) ∧
    (n ≤ 0x1FFF → n' < 0x0800 → chr (r.regs[0].toNat / 2 * 2 + n' / 1024 % 2)) ∧
    (n ≤ 0x1FFF → 0x0800 ≤ n' → n' < 0x1000 → chr (r.regs[1].toNat / 2 * 2 + n' / 1024 % 2)) ∧
    (n ≤ 0x1FFF → 0x1000 ≤ n' → n' < 0x1400 → chr r.regs[2].toNat) ∧
    (n ≤ 0x1FFF → 0x1400 ≤ n' → n' < 0x1800 → chr r.regs[3].toNat) ∧
    (n ≤ 0x1FFF → 0x1800 ≤ n' → n' < 0x1C00 → chr r.regs[4].toNat) ∧
    (n ≤ 0x1FFF → 0x1C00 ≤ n' → chr r.regs[5].toNat) ∧
    (0x6000 ≤ n → n ≤ 0x7FFF →
      (r.ramEnable = true → exec (.mmc3RPrgram a) s = .next (s.answered (c.prgRam.read index))) ∧
      (r.ramEnable = false → ∃ b : Byte,
        exec (.mmc3RPrgram a) s = .next { s with result := .data b, draws := s.draws + 1 }) ∧
      (r.ramEnable = true → r.ramDeny = false →
        exec (.mmc3WPrgram a d) s = .next (s.stored { c with prgRam := c.prgRam.write index d })) ∧
      (r.ramEnable = false ∨ r.ramDeny = true →
        exec (.mmc3WPrgram a d) s = .next (s.errored (.writeProtected a d))))

/-- 46 R254: the scanline counter. -/
def Obligations.Mmc3Cycle : Prop :=
  ∀ (s : State) (c : Cartridge) (r : Mmc3) (sl cy : BitVec 16) (bg sp : Bool), s.Serves c → c.mapper = .mmc3 r →
    let p := s.params
    let clock := cy.toNat = p.mmc3IrqCycle ∧ (bg = true ∨ sp = true) ∧
      ((p.visibleFirst ≤ sl.toInt ∧ sl.toInt ≤ p.visibleLast) ∨ sl.toInt = p.prerenderScanline)
    let becomes (q : Mmc3) : Prop :=
      exec (.mmc3Vc sl cy bg sp) s =
        .next { s with cart := some { c with mapper := .mmc3 q }, result := .nothing }
    (¬clock → becomes r) ∧
    (clock → r.irqCounter = 0 ∨ r.irqReload = true →
      becomes { r with
        irqCounter := r.irqLatch
        irqReload := false
        irqPending := r.irqPending || (decide (r.irqLatch = 0) && r.irqEnabled) }) ∧
    (clock → r.irqCounter ≠ 0 → r.irqReload = false →
      becomes { r with
        irqCounter := r.irqCounter - 1
        irqPending := r.irqPending || (decide (r.irqCounter = 1) && r.irqEnabled) })

/-! ## Whole-machine rules -/

/-- 20 R59: a read changes nothing but its result, the used draws and, on the video port, the MMC2 and MMC4 latches. -/
def Obligations.ReadsChangeOnlyLatches : Prop :=
  ∀ (i : Instr) (s t : State), readFormat i.format = true → exec i s = .next t →
    t = { s with cart := t.cart, result := t.result, draws := t.draws } ∧
    (i.format ≠ .vidRead → t.cart = s.cart) ∧
    t.cart.map (fun c => { c with mapper := c.mapper.lessLatches }) =
      s.cart.map (fun c => { c with mapper := c.mapper.lessLatches })

/-- 60 R262 (with R263 to R266 on what is recorded): a transaction whose result is an error changes nothing but `fault`,
which takes an access error under STRICT and nothing else. -/
def Obligations.ErrorsArePrecise : Prop :=
  ∀ (i : Instr) (s t : State) (e : Error), exec i s = .next t → t.result = .error e →
    t = { s with result := .error e, fault := t.fault } ∧
    (∀ name value, e ≠ .invalidMode name value) ∧
    ((∃ a d, e = .illegalWrite a d) ∨ (∃ a d, e = .writeProtected a d) →
      t.fault = match s.params.policy with
        | .strict => some e
        | .lenient => none) ∧
    ((∃ reason, e = .format reason) ∨ (∃ id, e = .unsupportedMapper id) ∨ (∃ n, e = .mirrorConfig n) → t.fault = none)

/-- 00 R11, 10 R19: no instruction at all, `LOAD` and `UNLOAD` included, changes a parameter, the error policy among them
(they stand in State by the model's choice, log 7 and log 8). 00 R12, 10 R26 to R33: what is fixed at load stays for the
life of the cartridge. -/
def Obligations.FixedForLife : Prop :=
  (∀ (i : Instr) (s t : State), exec i s = .next t → t.params = s.params) ∧
  ∀ (i : Instr) (s t : State) (c : Cartridge), (∀ image, i ≠ .load image) → i ≠ .unload → exec i s = .next t →
    s.cart = some c →
    ∃ c', t.cart = some c' ∧ c'.variant = c.variant ∧ c'.prgBanks = c.prgBanks ∧ c'.chrBanks = c.chrBanks ∧
      c'.prgRom = c.prgRom ∧ c'.batteryPresent = c.batteryPresent ∧ c'.fourScreenLocked = c.fourScreenLocked ∧
      (c.chrIsRam = false → c'.chr = c.chr) ∧
      (c.fourScreenLocked = true → c'.mirrorMode = c.mirrorMode ∧ c'.singleScreenPage = c.singleScreenPage)

/-- 60 R274, 46 R249, R254, R257: only the MMC3 counter clock raises `irqLine`, and only the disable write, or a load or
unload of the cartridge, drops it. -/
def Obligations.IrqLineRules : Prop :=
  ∀ (i : Instr) (s t : State), exec i s = .next t →
    (s.irqLine = false → t.irqLine = true → ∃ sl cy bg sp, i = .mmc3Vc sl cy bg sp) ∧
    (s.irqLine = true → t.irqLine = false →
      (∃ a d, i = .mmc3WIrqdisable a d) ∨ (∃ a d, i = .busWCart a d ∧ 0xE000 ≤ a.toNat ∧ a.toNat % 2 = 0) ∨
      (∃ image, i = .load image) ∨ i = .unload)
end

