-- ==== Sys2Proof/Laws/State.lean ====
section
/-! SUPPORT. One lemma per field for each update of the state and of the cartridge: what the update makes of the field. -/

namespace Sys2Proof.Machine

@[simp] theorem State.finish_params (s : State) (r : Result) : (s.finish r).params = s.params := rfl
@[simp] theorem State.finish_store (s : State) (r : Result) : (s.finish r).store = s.store := rfl
@[simp] theorem State.finish_mirrors (s : State) (r : Result) : (s.finish r).mirrors = s.mirrors := rfl
@[simp] theorem State.finish_cart (s : State) (r : Result) : (s.finish r).cart = s.cart := rfl
@[simp] theorem State.finish_fault (s : State) (r : Result) : (s.finish r).fault = s.fault := rfl
@[simp] theorem State.finish_pending (s : State) (r : Result) : (s.finish r).pending = s.pending := rfl
@[simp] theorem State.finish_result (s : State) (r : Result) : (s.finish r).result = r := rfl
@[simp] theorem State.finish_events (s : State) (r : Result) : (s.finish r).events = s.events := rfl
@[simp] theorem State.finish_draws (s : State) (r : Result) : (s.finish r).draws = s.draws := rfl

@[simp] theorem State.answer_params (s : State) (b : Byte) : (s.answer b).params = s.params := rfl
@[simp] theorem State.answer_store (s : State) (b : Byte) : (s.answer b).store = s.store := rfl
@[simp] theorem State.answer_mirrors (s : State) (b : Byte) : (s.answer b).mirrors = s.mirrors := rfl
@[simp] theorem State.answer_cart (s : State) (b : Byte) : (s.answer b).cart = s.cart := rfl
@[simp] theorem State.answer_fault (s : State) (b : Byte) : (s.answer b).fault = s.fault := rfl
@[simp] theorem State.answer_pending (s : State) (b : Byte) : (s.answer b).pending = s.pending := rfl
@[simp] theorem State.answer_result (s : State) (b : Byte) : (s.answer b).result = .data b := rfl
@[simp] theorem State.answer_events (s : State) (b : Byte) : (s.answer b).events = s.events := rfl
@[simp] theorem State.answer_draws (s : State) (b : Byte) : (s.answer b).draws = s.draws := rfl

@[simp] theorem State.setCart_params (s : State) (c : Cartridge) : (s.setCart c).params = s.params := rfl
@[simp] theorem State.setCart_store (s : State) (c : Cartridge) : (s.setCart c).store = s.store := rfl
@[simp] theorem State.setCart_mirrors (s : State) (c : Cartridge) : (s.setCart c).mirrors = s.mirrors := rfl
@[simp] theorem State.setCart_cart (s : State) (c : Cartridge) : (s.setCart c).cart = some c := rfl
@[simp] theorem State.setCart_fault (s : State) (c : Cartridge) : (s.setCart c).fault = s.fault := rfl
@[simp] theorem State.setCart_pending (s : State) (c : Cartridge) : (s.setCart c).pending = s.pending := rfl
@[simp] theorem State.setCart_result (s : State) (c : Cartridge) : (s.setCart c).result = s.result := rfl
@[simp] theorem State.setCart_events (s : State) (c : Cartridge) : (s.setCart c).events = s.events := rfl
@[simp] theorem State.setCart_draws (s : State) (c : Cartridge) : (s.setCart c).draws = s.draws := rfl

@[simp] theorem State.putRegs_params (s : State) (c : Cartridge) (m : Mapper) : (s.putRegs c m).params = s.params := rfl
@[simp] theorem State.putRegs_store (s : State) (c : Cartridge) (m : Mapper) : (s.putRegs c m).store = s.store := rfl
@[simp] theorem State.putRegs_mirrors (s : State) (c : Cartridge) (m : Mapper) : (s.putRegs c m).mirrors = s.mirrors := rfl
@[simp] theorem State.putRegs_cart (s : State) (c : Cartridge) (m : Mapper) : (s.putRegs c m).cart = some (c.setMapper m) := rfl
@[simp] theorem State.putRegs_fault (s : State) (c : Cartridge) (m : Mapper) : (s.putRegs c m).fault = s.fault := rfl
@[simp] theorem State.putRegs_pending (s : State) (c : Cartridge) (m : Mapper) : (s.putRegs c m).pending = s.pending := rfl
@[simp] theorem State.putRegs_result (s : State) (c : Cartridge) (m : Mapper) : (s.putRegs c m).result = .ok := rfl
@[simp] theorem State.putRegs_events (s : State) (c : Cartridge) (m : Mapper) : (s.putRegs c m).events = s.events := rfl
@[simp] theorem State.putRegs_draws (s : State) (c : Cartridge) (m : Mapper) : (s.putRegs c m).draws = s.draws := rfl

@[simp] theorem State.openBus_params (s : State) : (s.openBus).params = s.params := rfl
@[simp] theorem State.openBus_store (s : State) : (s.openBus).store = s.store := rfl
@[simp] theorem State.openBus_mirrors (s : State) : (s.openBus).mirrors = s.mirrors := rfl
@[simp] theorem State.openBus_cart (s : State) : (s.openBus).cart = s.cart := rfl
@[simp] theorem State.openBus_fault (s : State) : (s.openBus).fault = s.fault := rfl
@[simp] theorem State.openBus_pending (s : State) : (s.openBus).pending = s.pending := rfl
@[simp] theorem State.openBus_result (s : State) : (s.openBus).result = .data (Config.freeByte s.draws 0) := rfl
@[simp] theorem State.openBus_events (s : State) : (s.openBus).events = s.events := rfl
@[simp] theorem State.openBus_draws (s : State) : (s.openBus).draws = s.draws + 1 := rfl

@[simp] theorem State.raise_params (s : State) (e : Error) : (s.raise e).params = s.params := rfl
@[simp] theorem State.raise_store (s : State) (e : Error) : (s.raise e).store = s.store := rfl
@[simp] theorem State.raise_mirrors (s : State) (e : Error) : (s.raise e).mirrors = s.mirrors := rfl
@[simp] theorem State.raise_cart (s : State) (e : Error) : (s.raise e).cart = s.cart := rfl
@[simp] theorem State.raise_fault (s : State) (e : Error) : (s.raise e).fault = if errorRecorded s.params.policy e then some e else s.fault := rfl
@[simp] theorem State.raise_pending (s : State) (e : Error) : (s.raise e).pending = s.pending := rfl
@[simp] theorem State.raise_result (s : State) (e : Error) : (s.raise e).result = .error e := rfl
@[simp] theorem State.raise_events (s : State) (e : Error) : (s.raise e).events = s.events := rfl
@[simp] theorem State.raise_draws (s : State) (e : Error) : (s.raise e).draws = s.draws := rfl

@[simp] theorem State.writeRam_params (s : State) (c : Cartridge) (off : Nat) (d : Byte) : (s.writeRam c off d).params = s.params := rfl
@[simp] theorem State.writeRam_store (s : State) (c : Cartridge) (off : Nat) (d : Byte) : (s.writeRam c off d).store = s.store := rfl
@[simp] theorem State.writeRam_mirrors (s : State) (c : Cartridge) (off : Nat) (d : Byte) : (s.writeRam c off d).mirrors = s.mirrors := rfl
@[simp] theorem State.writeRam_cart (s : State) (c : Cartridge) (off : Nat) (d : Byte) : (s.writeRam c off d).cart = some { c with prgRam := c.prgRam.write off d } := rfl
@[simp] theorem State.writeRam_fault (s : State) (c : Cartridge) (off : Nat) (d : Byte) : (s.writeRam c off d).fault = s.fault := rfl
@[simp] theorem State.writeRam_pending (s : State) (c : Cartridge) (off : Nat) (d : Byte) : (s.writeRam c off d).pending = s.pending := rfl
@[simp] theorem State.writeRam_result (s : State) (c : Cartridge) (off : Nat) (d : Byte) : (s.writeRam c off d).result = .ok := rfl
@[simp] theorem State.writeRam_events (s : State) (c : Cartridge) (off : Nat) (d : Byte) : (s.writeRam c off d).events = s.events := rfl
@[simp] theorem State.writeRam_draws (s : State) (c : Cartridge) (off : Nat) (d : Byte) : (s.writeRam c off d).draws = s.draws := rfl

@[simp] theorem State.taken_params (s : State) (rest : List Request) : (s.taken rest).params = s.params := rfl
@[simp] theorem State.taken_store (s : State) (rest : List Request) : (s.taken rest).store = s.store := rfl
@[simp] theorem State.taken_mirrors (s : State) (rest : List Request) : (s.taken rest).mirrors = s.mirrors := rfl
@[simp] theorem State.taken_cart (s : State) (rest : List Request) : (s.taken rest).cart = s.cart := rfl
@[simp] theorem State.taken_fault (s : State) (rest : List Request) : (s.taken rest).fault = s.fault := rfl
@[simp] theorem State.taken_pending (s : State) (rest : List Request) : (s.taken rest).pending = rest := rfl
@[simp] theorem State.taken_result (s : State) (rest : List Request) : (s.taken rest).result = s.result := rfl
@[simp] theorem State.taken_events (s : State) (rest : List Request) : (s.taken rest).events = s.events := rfl
@[simp] theorem State.taken_draws (s : State) (rest : List Request) : (s.taken rest).draws = s.draws := rfl

@[simp] theorem Cartridge.setMapper_prgBanks (c : Cartridge) (m : Mapper) : (c.setMapper m).prgBanks = c.prgBanks := rfl
@[simp] theorem Cartridge.setMapper_chrBanks (c : Cartridge) (m : Mapper) : (c.setMapper m).chrBanks = c.chrBanks := rfl
@[simp] theorem Cartridge.setMapper_prgRom (c : Cartridge) (m : Mapper) : (c.setMapper m).prgRom = c.prgRom := rfl
@[simp] theorem Cartridge.setMapper_chr (c : Cartridge) (m : Mapper) : (c.setMapper m).chr = c.chr := rfl
@[simp] theorem Cartridge.setMapper_prgRam (c : Cartridge) (m : Mapper) : (c.setMapper m).prgRam = c.prgRam := rfl
@[simp] theorem Cartridge.setMapper_batteryPresent (c : Cartridge) (m : Mapper) : (c.setMapper m).batteryPresent = c.batteryPresent := rfl
@[simp] theorem Cartridge.setMapper_mirrorMode (c : Cartridge) (m : Mapper) : (c.setMapper m).mirrorMode = c.mirrorMode := rfl
@[simp] theorem Cartridge.setMapper_singleScreenPage (c : Cartridge) (m : Mapper) : (c.setMapper m).singleScreenPage = c.singleScreenPage := rfl
@[simp] theorem Cartridge.setMapper_fourScreenLocked (c : Cartridge) (m : Mapper) : (c.setMapper m).fourScreenLocked = c.fourScreenLocked := rfl
@[simp] theorem Cartridge.setMapper_mapper (c : Cartridge) (m : Mapper) : (c.setMapper m).mapper = m := rfl

@[simp] theorem Memory.write_fill (m : Memory) (i : Nat) (v : Byte) : (m.write i v).fill = m.fill := rfl

@[simp] theorem State.finish_variant (s : State) (r : Result) : (s.finish r).variant = s.variant := rfl

@[simp] theorem State.taken_variant (s : State) (rest : List Request) : (s.taken rest).variant = s.variant := rfl

end Sys2Proof.Machine
end

