-- ==== Sys2Proof/Laws/Ops.lean ====
section
/-! SUPPORT. What each shared operation can do, said once: cite these instead of unfolding the operations. -/

namespace Sys2Proof.Machine

/-- `onHost` answers a next state exactly when no fault is recorded. -/
theorem State.onHost_next {s k t : State} : s.onHost k = .next t ↔ s.fault = none ∧ t = k := by
  unfold State.onHost
  cases s.fault <;> simp [eq_comm]

/-- `onHost` never faults. -/
theorem State.onHost_not_fault {s k : State} {e : Fault} : s.onHost k ≠ .fault e := by
  unfold State.onHost
  cases s.fault <;> simp

/-- `onLocal` answers a next state exactly for a local address with no fault recorded. -/
theorem State.onLocal_next {s k t : State} {a : Addr} :
    s.onLocal a k = .next t ↔ s.fault = none ∧ a.toNat < s.params.cartBase ∧ t = k := by
  unfold State.onLocal
  cases s.fault with
  | some _ => simp
  | none => by_cases h : a.toNat < s.params.cartBase <;> simp [h, eq_comm]

/-- `onCart` answers a next state exactly when no fault is recorded, a cartridge is loaded and the transaction's own
refusals do not apply. -/
theorem State.onCart_next {α : Type} {s t : State} {sel : Cartridge → Except Refusal α} {k : Cartridge → α → State} :
    s.onCart sel k = .next t ↔ s.fault = none ∧ ∃ c x, s.cart = some c ∧ sel c = .ok x ∧ t = k c x := by
  unfold State.onCart
  cases s.fault with
  | some _ => simp
  | none =>
    cases s.cart with
    | none => simp
    | some c => cases hs : sel c <;> simp [hs, eq_comm]

/-- `rowSel` selects exactly where the address test holds and the mapper is a variant of the row. -/
theorem rowSel_ok {α : Type} {addr : Option Refusal} {regs : Mapper → Option α} {c : Cartridge} {x : α} :
    rowSel addr regs c = .ok x ↔ addr = none ∧ regs c.mapper = some x := by
  unfold rowSel
  cases addr with
  | some _ => simp
  | none => cases hr : regs c.mapper <;> simp

/-- `onRow` answers a next state exactly when the row is selected: no fault, a cartridge of the row's variants, the row's
address. -/
theorem State.onRow_next {α : Type} {s t : State} {addr : Option Refusal} {regs : Mapper → Option α}
    {k : Cartridge → α → State} :
    s.onRow addr regs k = .next t ↔
      s.fault = none ∧ addr = none ∧ ∃ c x, s.cart = some c ∧ regs c.mapper = some x ∧ t = k c x := by
  simp only [State.onRow, State.onCart_next, rowSel_ok]
  constructor
  · rintro ⟨hf, c, x, hc, ⟨ha, hr⟩, ht⟩
    exact ⟨hf, ha, c, x, hc, hr, ht⟩
  · rintro ⟨hf, ha, c, x, hc, hr, ht⟩
    exact ⟨hf, c, x, hc, ⟨ha, hr⟩, ht⟩

/-- A row that is selected runs. -/
theorem State.onRow_run {α : Type} {s : State} {addr : Option Refusal} {regs : Mapper → Option α}
    {k : Cartridge → α → State} {c : Cartridge} {x : α} (hf : s.fault = none) (hc : s.cart = some c) (ha : addr = none)
    (hr : regs c.mapper = some x) : s.onRow addr regs k = .next (k c x) :=
  State.onRow_next.2 ⟨hf, ha, c, x, hc, hr, rfl⟩

/-- The address test of a CPU row. -/
theorem cpuAddr_none {lo hi : Nat} {a : Addr} : cpuAddr lo hi a = none ↔ lo ≤ a.toNat ∧ a.toNat ≤ hi := by
  simp [cpuAddr, within]

/-- The address test of an MMC3 register row. -/
theorem parityAddr_none {lo hi p : Nat} {a : Addr} :
    parityAddr lo hi p a = none ↔ lo ≤ a.toNat ∧ a.toNat ≤ hi ∧ a.toNat % 2 = p := by
  simp [parityAddr, within, and_assoc]

/-- The address test of the video port. -/
theorem videoAddr_none {a : Addr} : videoAddr a = none ↔ a.toNat ≤ 0x1FFF := by
  simp [videoAddr, within]

/-- `setMirror` writes the cartridge and the events, nothing else. -/
theorem State.setMirror_frame (s : State) (c : Cartridge) (mode : MirrorMode) (page : BitVec 1) :
    (s.setMirror c mode page).params = s.params ∧ (s.setMirror c mode page).store = s.store ∧
      (s.setMirror c mode page).mirrors = s.mirrors ∧ (s.setMirror c mode page).fault = s.fault ∧
      (s.setMirror c mode page).pending = s.pending ∧ (s.setMirror c mode page).result = s.result ∧
      (s.setMirror c mode page).draws = s.draws := by
  unfold State.setMirror
  split
  · simp
  · split <;> simp

/-- Storing the mirroring that a cartridge already has changes nothing of it. -/
theorem Cartridge.same_mirroring {c : Cartridge} {mode : MirrorMode} {page : BitVec 1} (hm : mode = c.mirrorMode)
    (hp : page = c.singleScreenPage) : { c with mirrorMode := mode, singleScreenPage := page } = c := by
  subst hm hp
  rfl

/-- What `setMirror` makes of the cartridge. -/
theorem State.setMirror_cart (s : State) (c : Cartridge) (mode : MirrorMode) (page : BitVec 1) :
    (s.setMirror c mode page).cart =
      some (if c.fourScreenLocked then c
        else { c with mirrorMode := mode, singleScreenPage := pageFor mode page }) := by
  by_cases hl : c.fourScreenLocked = true
  · simp [State.setMirror, hl]
  · rw [State.setMirror, if_neg hl, if_neg hl]
    by_cases hp : mode = c.mirrorMode ∧ pageFor mode page = c.singleScreenPage
    · rw [if_pos hp, Cartridge.same_mirroring hp.1 hp.2, State.setCart_cart]
    · rw [if_neg hp]

/-- `chrWrite` stores into CHR-RAM and raises on CHR-ROM (42 R147). -/
theorem State.chrWrite_cases (s : State) (c : Cartridge) (a : Addr) (off : Nat) (d : Byte) :
    (c.chrIsRam = true ∧ s.chrWrite c a off d = (s.setCart { c with chr := c.chr.write off d }).finish .ok) ∨
      (c.chrIsRam = false ∧ s.chrWrite c a off d = s.raise (.illegalWrite a d)) := by
  unfold State.chrWrite
  cases c.chrIsRam <;> simp

/-- Storing mapper registers, in the terms of Safety. -/
theorem State.putRegs_stored (s : State) (c : Cartridge) (m : Mapper) : s.putRegs c m = s.stored { c with mapper := m } := rfl

/-- Storing a byte of `PrgRam`, in the terms of Safety. -/
theorem State.writeRam_stored (s : State) (c : Cartridge) (off : Nat) (d : Byte) :
    s.writeRam c off d = s.stored { c with prgRam := c.prgRam.write off d } := rfl

/-- Answering a byte, in the terms of Safety. -/
theorem State.answer_answered (s : State) (b : Byte) : s.answer b = s.answered b := rfl

/-- Taking an illegal write, in the terms of Safety. -/
theorem State.raise_illegalWrite (s : State) (a : Addr) (d : Byte) :
    s.raise (.illegalWrite a d) = s.errored (.illegalWrite a d) := by
  unfold State.raise State.errored
  cases s.params.policy <;> simp [errorRecorded]

/-- Taking a write to a protected RAM, in the terms of Safety. -/
theorem State.raise_writeProtected (s : State) (a : Addr) (d : Byte) :
    s.raise (.writeProtected a d) = s.errored (.writeProtected a d) := by
  unfold State.raise State.errored
  cases s.params.policy <;> simp [errorRecorded]

/-- `chrWrite` in the terms of Safety. -/
theorem State.chrWrite_eq (s : State) (c : Cartridge) (a : Addr) (off : Nat) (d : Byte) :
    s.chrWrite c a off d =
      if c.chrIsRam then s.stored { c with chr := c.chr.write off d } else s.errored (.illegalWrite a d) := by
  rw [← State.raise_illegalWrite]
  rfl

/-- `setMirror` in the terms of Safety. -/
theorem State.setMirror_eq (s : State) (c : Cartridge) (mode : MirrorMode) (page : BitVec 1) :
    s.setMirror c mode page =
      { s with
        cart := some (c.mirrored mode (pageFor mode page))
        events := s.events ++ c.mirrorEvents mode (pageFor mode page) } := by
  unfold State.setMirror Cartridge.mirrored Cartridge.mirrorEvents
  by_cases hl : c.fourScreenLocked = true
  · simp [hl, State.setCart]
  · by_cases hp : mode = c.mirrorMode ∧ pageFor mode page = c.singleScreenPage
    · rw [if_neg hl, if_pos hp, if_neg hl, if_pos (.inr hp), List.append_nil, Cartridge.same_mirroring hp.1 hp.2]
      rfl
    · simp [hl, hp]

/-- The row that forwarding runs. -/
theorem State.forward_run {s : State} {c : Cartridge} {f : Format} {a : Addr} {d : Byte} {i : Instr}
    (hf : s.fault = none) (hc : s.cart = some c) (hi : mapperRow s.params c.variant f a d = some i) :
    s.forward f a d = mapperAccess i s := by
  simp [State.forward, hf, hc, hi]

/-- A forwarded CPU-side row runs as the instruction itself does. -/
theorem mapperAccess_exec {i : Instr} (s : State) (h : i.format = .cpuRead ∨ i.format = .cpuWrite) :
    mapperAccess i s = exec i s := by
  cases i <;> first | rfl | simp [Instr.format] at h

/-- The decoder's answer for a mapper transaction is the table's row or a default row, at an
address that the mapper receives. -/
theorem mapperRow_cases {p : Params} {v : Variant} {f : Format} {a : Addr} {d : Byte} {i : Instr} (h : mapperRow p v f a d = some i) :
    belowCart p f a = false ∧
      ((∃ r ∈ rowsOf f, selectsRow v a r = true ∧ i = r.build a d) ∨
        (findRow v f a = none ∧ defaultRow f a d = some i)) := by
  unfold mapperRow at h
  rw [Bool.eq_false_iff]
  split at h
  · simp at h
  refine ⟨‹_›, ?_⟩
  cases hr : findRow v f a with
  | none => exact .inr ⟨rfl, by simpa [hr] using h⟩
  | some r =>
    refine .inl ⟨r, List.mem_of_find?_eq_some hr, List.find?_some hr, ?_⟩
    simpa [hr, eq_comm] using h

/-- The row found is the first of the variant's own rows that covers the address: with the variant known, the filtered
list is a short literal. -/
theorem findRow_filter (v : Variant) (f : Format) (a : Addr) :
    findRow v f a = ((rowsOf f).filter fun r => r.variants.contains v).find? fun r => coversRow r a := by
  have h : selectsRow v a = fun r => r.variants.contains v && coversRow r a := rfl
  simp [findRow, h, List.find?_filter]

end Sys2Proof.Machine
end

