-- ==== Sys2Proof/Laws/Loader.lean ====
section
/-! SUPPORT. What the loader's parts can do: a good image's checks, the mapper after a load, the launch premises. -/

namespace Sys2Proof.Machine

/-- What the checks of `LOAD` establish (40 R99, R108). -/
theorem checkImage_ok {p : Params} {image : List Byte} {v : Variant} (h : checkImage p image = .ok v) :
    16 ≤ image.length ∧ image.take 4 = magicBytes ∧ imagePrgBanks image ≠ 0 ∧ imageNeed image ≤ image.length ∧
      p.variantOf (imageMapperId image) = some v := by
  unfold checkImage at h
  split at h
  · cases h
  split at h
  · cases h
  split at h
  · cases h
  split at h
  · cases h
  rename_i h₁ h₂ h₃ h₄
  refine ⟨not_lt.1 h₁, not_not.1 h₂, h₃, not_lt.1 h₄, ?_⟩
  cases hv : p.variantOf (imageMapperId image) with
  | none => simp [hv] at h
  | some w => simpa [hv] using h

/-- A new mapper is of its variant. -/
@[simp] theorem freshMapper_variant (v : Variant) (tag exTag : Nat) : (freshMapper v tag exTag).variant = v := by
  cases v <;> rfl

/-- A new mapper has the values that 70 R286 gives. -/
theorem freshMapper_justLoaded (v : Variant) (tag exTag : Nat) : (freshMapper v tag exTag).justLoaded = true := by
  cases v
  case mmc1 =>
    simp only [freshMapper, Mapper.justLoaded, freshMmc1]
    generalize drawn 5 tag 0 = x
    revert x
    decide
  all_goals rfl

/-- A launch state serves its cartridge. -/
theorem State.Launch.serves {s : State} {image : List Byte} {mirrors : List MirrorRegion} (h : s.Launch image mirrors) :
    ∃ c, s.Serves c ∧ c.JustLoaded s.params image :=
  let ⟨hf, _, c, hc, hj⟩ := h
  ⟨c, ⟨hf, hc⟩, hj⟩

end Sys2Proof.Machine
end

