-- ==== Sys2Proof/Laws/Memory.lean ====
section
/-! SUPPORT. Every operation on a byte array keeps its canonical form and its bounds; the arrays at power-on and after a
load have them; the bank-offset calculator stays inside the array (42 R139). -/

namespace Sys2Proof.Machine

/-- Strictly rising cells, as a pairwise relation. -/
theorem cellsRising_iff (l : List Host.Cell) : cellsRising l = true ↔ l.Pairwise fun x y => x.1 < y.1 := by
  induction l with
  | nil => simp [cellsRising]
  | cons x rest ih =>
    cases rest with
    | nil => simp [cellsRising]
    | cons y rest =>
      simp only [cellsRising, Bool.and_eq_true, decide_eq_true_eq] at ih ⊢
      rw [ih]
      constructor
      · rintro ⟨hxy, hp⟩
        refine List.pairwise_cons.2 ⟨fun z hz => ?_, hp⟩
        rcases List.mem_cons.1 hz with rfl | hz
        · exact hxy
        · exact lt_trans hxy (List.rel_of_pairwise_cons hp hz)
      · intro hp
        exact ⟨List.rel_of_pairwise_cons hp (List.mem_cons_self ..), hp.of_cons⟩

/-- A cell after listing a byte is the new cell or an old one. -/
theorem mem_insertCell {i : Nat} {v : Byte} {c : Host.Cell} {l : List Host.Cell} (h : c ∈ insertCell i v l) :
    c = (i, v) ∨ c ∈ l := by
  induction l with
  | nil => simpa [insertCell] using h
  | cons x rest ih =>
    simp only [insertCell] at h
    split at h
    · rcases List.mem_cons.1 h with h | h
      · exact .inl h
      · exact .inr h
    · split at h
      · rcases List.mem_cons.1 h with h | h
        · exact .inl h
        · exact .inr (List.mem_cons_of_mem _ h)
      · rcases List.mem_cons.1 h with h | h
        · exact .inr (h ▸ List.mem_cons_self ..)
        · exact (ih h).imp_right (List.mem_cons_of_mem _)

/-- Unlisting an index adds no cell. -/
theorem mem_eraseCell {i : Nat} {c : Host.Cell} {l : List Host.Cell} (h : c ∈ eraseCell i l) : c ∈ l := by
  induction l with
  | nil => simp [eraseCell] at h
  | cons x rest ih =>
    simp only [eraseCell] at h
    split at h
    · exact List.mem_cons_of_mem _ h
    · rcases List.mem_cons.1 h with h | h
      · exact h ▸ List.mem_cons_self ..
      · exact List.mem_cons_of_mem _ (ih h)

/-- Listing a byte keeps the indices rising. -/
theorem insertCell_rising {i : Nat} {v : Byte} {l : List Host.Cell} (h : l.Pairwise fun x y => x.1 < y.1) :
    (insertCell i v l).Pairwise fun x y => x.1 < y.1 := by
  induction l with
  | nil => simp [insertCell]
  | cons x rest ih =>
    simp only [insertCell]
    have hx := fun y hy => List.rel_of_pairwise_cons h (a' := y) hy
    split
    · rename_i hlt
      refine List.pairwise_cons.2 ⟨fun y hy => ?_, h⟩
      rcases List.mem_cons.1 hy with rfl | hy
      · exact hlt
      · exact lt_trans hlt (hx y hy)
    · split
      · rename_i heq
        exact List.pairwise_cons.2 ⟨fun y hy => heq ▸ hx y hy, h.of_cons⟩
      · refine List.pairwise_cons.2 ⟨fun y hy => ?_, ih h.of_cons⟩
        rcases mem_insertCell hy with rfl | hy
        · show x.1 < i
          omega
        · exact hx y hy

/-- Unlisting an index keeps the indices rising. -/
theorem eraseCell_rising {i : Nat} {l : List Host.Cell} (h : l.Pairwise fun x y => x.1 < y.1) :
    (eraseCell i l).Pairwise fun x y => x.1 < y.1 := by
  induction l with
  | nil => simp [eraseCell]
  | cons x rest ih =>
    simp only [eraseCell]
    split
    · exact h.of_cons
    · exact List.pairwise_cons.2 ⟨fun y hy => List.rel_of_pairwise_cons h (mem_eraseCell hy), ih h.of_cons⟩

/-- A write keeps the canonical form. -/
theorem Memory.write_wf {m : Memory} (i : Nat) (v : Byte) (h : m.wf = true) : (m.write i v).wf = true := by
  simp only [Memory.wf, Bool.and_eq_true, cellsRising_iff, List.all_eq_true, bne_iff_ne] at h ⊢
  obtain ⟨hr, hk⟩ := h
  by_cases hv : fillKnown m.fill i = some v
  · simp only [Memory.write, hv, if_true]
    exact ⟨eraseCell_rising hr, fun c hc => hk c (mem_eraseCell hc)⟩
  · simp only [Memory.write, hv, if_false]
    refine ⟨insertCell_rising hr, fun c hc => ?_⟩
    rcases mem_insertCell hc with rfl | hc
    · exact hv
    · exact hk c hc

/-- A write inside the array lists no index outside it. -/
theorem Memory.write_fits {m : Memory} {n i : Nat} (v : Byte) (hi : i < n) (h : m.fits n = true) :
    (m.write i v).fits n = true := by
  simp only [Memory.fits, List.all_eq_true, decide_eq_true_eq] at h ⊢
  intro c hc
  simp only [Memory.write] at hc
  split at hc
  · exact h c (mem_eraseCell hc)
  · rcases mem_insertCell hc with rfl | hc
    · exact hi
    · exact h c hc

/-- A write inside an array keeps it an array of its length. -/
theorem Memory.write_holds {m : Memory} {n i : Nat} (v : Byte) (hi : i < n) (h : m.holds n = true) :
    (m.write i v).holds n = true := by
  simp only [Memory.holds, Bool.and_eq_true] at h ⊢
  exact ⟨⟨Memory.write_wf i v h.1.1, Memory.write_fits v hi h.1.2⟩, h.2⟩

/-- An array with no cell is an array of every length that its fill has. -/
theorem Memory.bare_holds {f : Fill} {n : Nat} (h : fillSized f n = true) : Memory.holds ⟨f, []⟩ n = true := by
  simp [Memory.holds, Memory.wf, Memory.fits, cellsRising, h]

/-- The memory of the state at power-on is canonical. -/
theorem reset_store_wf : State.reset.store.wf = true := rfl

/-- Reading with no cell listed reads the fill. -/
@[simp] theorem Memory.read_bare (f : Fill) (i : Nat) : Memory.read ⟨f, []⟩ i = fillByte f i := rfl

end Sys2Proof.Machine
end

