-- ==== Sys2Proof/Laws/PerInstr.lean ====
section
/-! SUPPORT. Family `Encoding`, one lemma per instruction: the encoder keeps the row's format and writes as many operand
bytes as a format of fixed length has. -/

namespace Sys2Proof.Laws.Encoding

/-- The request of an instruction is of its row's format, and of the format's length where that is fixed. -/
def Statement (i : Instr) : Prop :=
  (encode i).format = i.format ∧
    (operandLength i.format ≠ 0 → (encode i).operands.length = operandLength i.format)

theorem busRLocal (a : Addr) : Statement (.busRLocal a) := ⟨rfl, fun _ => rfl⟩
theorem busWLocal (a : Addr) (d : Byte) : Statement (.busWLocal a d) := ⟨rfl, fun _ => rfl⟩
theorem busRCart (a : Addr) : Statement (.busRCart a) := ⟨rfl, fun _ => rfl⟩
theorem busWCart (a : Addr) (d : Byte) : Statement (.busWCart a d) := ⟨rfl, fun _ => rfl⟩
theorem mirror (base : Addr) (regionSize extent : BitVec 17) : Statement (.mirror base regionSize extent) := ⟨rfl, fun _ => rfl⟩
theorem resetcfg : Statement (.resetcfg) := ⟨rfl, fun h => absurd rfl h⟩
theorem wipe : Statement (.wipe) := ⟨rfl, fun h => absurd rfl h⟩
theorem load (image : List Byte) : Statement (.load image) := ⟨rfl, fun h => absurd rfl h⟩
theorem unload : Statement (.unload) := ⟨rfl, fun h => absurd rfl h⟩
theorem saveload (bytes : List Byte) : Statement (.saveload bytes) := ⟨rfl, fun h => absurd rfl h⟩
theorem savedump : Statement (.savedump) := ⟨rfl, fun h => absurd rfl h⟩
theorem name : Statement (.name) := ⟨rfl, fun h => absurd rfl h⟩
theorem genWUnmapped (a : Addr) (d : Byte) : Statement (.genWUnmapped a d) := ⟨rfl, fun _ => rfl⟩
theorem genRUnmapped (a : Addr) : Statement (.genRUnmapped a) := ⟨rfl, fun _ => rfl⟩
theorem genRPrgram6000 (a : Addr) : Statement (.genRPrgram6000 a) := ⟨rfl, fun _ => rfl⟩
theorem genWPrgram6000 (a : Addr) (d : Byte) : Statement (.genWPrgram6000 a d) := ⟨rfl, fun _ => rfl⟩
theorem genVrChr8fixed (a : Addr) : Statement (.genVrChr8fixed a) := ⟨rfl, fun _ => rfl⟩
theorem genVwChr8fixed (a : Addr) (d : Byte) : Statement (.genVwChr8fixed a d) := ⟨rfl, fun _ => rfl⟩
theorem genVcNop (scanline cycle : BitVec 16) (showBackground showSprites : Bool) : Statement (.genVcNop scanline cycle showBackground showSprites) := ⟨rfl, fun _ => rfl⟩
theorem mmc5WPrgmode (d : Byte) : Statement (.mmc5WPrgmode d) := ⟨rfl, fun _ => rfl⟩
theorem mmc5WChrmode (d : Byte) : Statement (.mmc5WChrmode d) := ⟨rfl, fun _ => rfl⟩
theorem mmc5WProtect1 (d : Byte) : Statement (.mmc5WProtect1 d) := ⟨rfl, fun _ => rfl⟩
theorem mmc5WProtect2 (d : Byte) : Statement (.mmc5WProtect2 d) := ⟨rfl, fun _ => rfl⟩
theorem mmc5WExrammode (d : Byte) : Statement (.mmc5WExrammode d) := ⟨rfl, fun _ => rfl⟩
theorem mmc5WNtmap (d : Byte) : Statement (.mmc5WNtmap d) := ⟨rfl, fun _ => rfl⟩
theorem mmc5WFilltile (d : Byte) : Statement (.mmc5WFilltile d) := ⟨rfl, fun _ => rfl⟩
theorem mmc5WFillattr (d : Byte) : Statement (.mmc5WFillattr d) := ⟨rfl, fun _ => rfl⟩
theorem mmc5WPrgrambank (d : Byte) : Statement (.mmc5WPrgrambank d) := ⟨rfl, fun _ => rfl⟩
theorem mmc5WPrgbank0 (d : Byte) : Statement (.mmc5WPrgbank0 d) := ⟨rfl, fun _ => rfl⟩
theorem mmc5WPrgbank1 (d : Byte) : Statement (.mmc5WPrgbank1 d) := ⟨rfl, fun _ => rfl⟩
theorem mmc5WPrgbank2 (d : Byte) : Statement (.mmc5WPrgbank2 d) := ⟨rfl, fun _ => rfl⟩
theorem mmc5WPrgbank3 (d : Byte) : Statement (.mmc5WPrgbank3 d) := ⟨rfl, fun _ => rfl⟩
theorem mmc5WChrupper (d : Byte) : Statement (.mmc5WChrupper d) := ⟨rfl, fun _ => rfl⟩
theorem mmc5WMult1 (d : Byte) : Statement (.mmc5WMult1 d) := ⟨rfl, fun _ => rfl⟩
theorem mmc5WMult2 (d : Byte) : Statement (.mmc5WMult2 d) := ⟨rfl, fun _ => rfl⟩
theorem mmc5WChra (i : BitVec 3) (d : Byte) : Statement (.mmc5WChra i d) := ⟨rfl, fun _ => rfl⟩
theorem mmc5WChrb (i : BitVec 2) (d : Byte) : Statement (.mmc5WChrb i d) := ⟨rfl, fun _ => rfl⟩
theorem mmc5WExram (a : Addr) (d : Byte) : Statement (.mmc5WExram a d) := ⟨rfl, fun _ => rfl⟩
theorem mmc5WPrgram6000 (a : Addr) (d : Byte) : Statement (.mmc5WPrgram6000 a d) := ⟨rfl, fun _ => rfl⟩
theorem mmc5WPrg (a : Addr) (d : Byte) : Statement (.mmc5WPrg a d) := ⟨rfl, fun _ => rfl⟩
theorem mmc5RProdlo : Statement (.mmc5RProdlo) := ⟨rfl, fun _ => rfl⟩
theorem mmc5RProdhi : Statement (.mmc5RProdhi) := ⟨rfl, fun _ => rfl⟩
theorem mmc5RExram (a : Addr) : Statement (.mmc5RExram a) := ⟨rfl, fun _ => rfl⟩
theorem mmc5RPrgram6000 (a : Addr) : Statement (.mmc5RPrgram6000 a) := ⟨rfl, fun _ => rfl⟩
theorem mmc5RPrg (a : Addr) : Statement (.mmc5RPrg a) := ⟨rfl, fun _ => rfl⟩
theorem mmc5VrChr (a : Addr) : Statement (.mmc5VrChr a) := ⟨rfl, fun _ => rfl⟩
theorem mmc5VwChr (a : Addr) (d : Byte) : Statement (.mmc5VwChr a d) := ⟨rfl, fun _ => rfl⟩
theorem mmc5Vc (scanline cycle : BitVec 16) (showBackground showSprites : Bool) : Statement (.mmc5Vc scanline cycle showBackground showSprites) := ⟨rfl, fun _ => rfl⟩
theorem nromRPrg (a : Addr) : Statement (.nromRPrg a) := ⟨rfl, fun _ => rfl⟩
theorem nromWPrg (a : Addr) (d : Byte) : Statement (.nromWPrg a d) := ⟨rfl, fun _ => rfl⟩
theorem uxromRPrg (a : Addr) : Statement (.uxromRPrg a) := ⟨rfl, fun _ => rfl⟩
theorem uxromWBank (a : Addr) (d : Byte) : Statement (.uxromWBank a d) := ⟨rfl, fun _ => rfl⟩
theorem cnromWBank (a : Addr) (d : Byte) : Statement (.cnromWBank a d) := ⟨rfl, fun _ => rfl⟩
theorem cnromVrChr (a : Addr) : Statement (.cnromVrChr a) := ⟨rfl, fun _ => rfl⟩
theorem cnromVwChr (a : Addr) (d : Byte) : Statement (.cnromVwChr a d) := ⟨rfl, fun _ => rfl⟩
theorem axromRPrg (a : Addr) : Statement (.axromRPrg a) := ⟨rfl, fun _ => rfl⟩
theorem axromWReg (a : Addr) (d : Byte) : Statement (.axromWReg a d) := ⟨rfl, fun _ => rfl⟩
theorem cdRPrg (a : Addr) : Statement (.cdRPrg a) := ⟨rfl, fun _ => rfl⟩
theorem cdWReg (a : Addr) (d : Byte) : Statement (.cdWReg a d) := ⟨rfl, fun _ => rfl⟩
theorem cdVrChr (a : Addr) : Statement (.cdVrChr a) := ⟨rfl, fun _ => rfl⟩
theorem cdVwChr (a : Addr) (d : Byte) : Statement (.cdVwChr a d) := ⟨rfl, fun _ => rfl⟩
theorem cpromWReg (a : Addr) (d : Byte) : Statement (.cpromWReg a d) := ⟨rfl, fun _ => rfl⟩
theorem cpromVrChr (a : Addr) : Statement (.cpromVrChr a) := ⟨rfl, fun _ => rfl⟩
theorem cpromVwChr (a : Addr) (d : Byte) : Statement (.cpromVwChr a d) := ⟨rfl, fun _ => rfl⟩
theorem m15WReg (a : Addr) (d : Byte) : Statement (.m15WReg a d) := ⟨rfl, fun _ => rfl⟩
theorem m15RPrg (a : Addr) : Statement (.m15RPrg a) := ⟨rfl, fun _ => rfl⟩
theorem m15VwChr (a : Addr) (d : Byte) : Statement (.m15VwChr a d) := ⟨rfl, fun _ => rfl⟩
theorem gxRPrg (a : Addr) : Statement (.gxRPrg a) := ⟨rfl, fun _ => rfl⟩
theorem gxWReg (a : Addr) (d : Byte) : Statement (.gxWReg a d) := ⟨rfl, fun _ => rfl⟩
theorem gxVrChr (a : Addr) : Statement (.gxVrChr a) := ⟨rfl, fun _ => rfl⟩
theorem gxVwChr (a : Addr) (d : Byte) : Statement (.gxVwChr a d) := ⟨rfl, fun _ => rfl⟩
theorem c71RPrg (a : Addr) : Statement (.c71RPrg a) := ⟨rfl, fun _ => rfl⟩
theorem c71WMirror (a : Addr) (d : Byte) : Statement (.c71WMirror a d) := ⟨rfl, fun _ => rfl⟩
theorem c71WRom (a : Addr) (d : Byte) : Statement (.c71WRom a d) := ⟨rfl, fun _ => rfl⟩
theorem c71WBank (a : Addr) (d : Byte) : Statement (.c71WBank a d) := ⟨rfl, fun _ => rfl⟩
theorem mmc1WSerial (a : Addr) (d : Byte) : Statement (.mmc1WSerial a d) := ⟨rfl, fun _ => rfl⟩
theorem mmc1RPrg (a : Addr) : Statement (.mmc1RPrg a) := ⟨rfl, fun _ => rfl⟩
theorem mmc1RPrgram (a : Addr) : Statement (.mmc1RPrgram a) := ⟨rfl, fun _ => rfl⟩
theorem mmc1WPrgram (a : Addr) (d : Byte) : Statement (.mmc1WPrgram a d) := ⟨rfl, fun _ => rfl⟩
theorem mmc1VrChr (a : Addr) : Statement (.mmc1VrChr a) := ⟨rfl, fun _ => rfl⟩
theorem mmc1VwChr (a : Addr) (d : Byte) : Statement (.mmc1VwChr a d) := ⟨rfl, fun _ => rfl⟩
theorem mmc24WRom (a : Addr) (d : Byte) : Statement (.mmc24WRom a d) := ⟨rfl, fun _ => rfl⟩
theorem mmc24WPrgsel (a : Addr) (d : Byte) : Statement (.mmc24WPrgsel a d) := ⟨rfl, fun _ => rfl⟩
theorem mmc24WChr0fd (a : Addr) (d : Byte) : Statement (.mmc24WChr0fd a d) := ⟨rfl, fun _ => rfl⟩
theorem mmc24WChr0fe (a : Addr) (d : Byte) : Statement (.mmc24WChr0fe a d) := ⟨rfl, fun _ => rfl⟩
theorem mmc24WChr1fd (a : Addr) (d : Byte) : Statement (.mmc24WChr1fd a d) := ⟨rfl, fun _ => rfl⟩
theorem mmc24WChr1fe (a : Addr) (d : Byte) : Statement (.mmc24WChr1fe a d) := ⟨rfl, fun _ => rfl⟩
theorem mmc24WMirror (a : Addr) (d : Byte) : Statement (.mmc24WMirror a d) := ⟨rfl, fun _ => rfl⟩
theorem mmc2RPrg (a : Addr) : Statement (.mmc2RPrg a) := ⟨rfl, fun _ => rfl⟩
theorem mmc4RPrg (a : Addr) : Statement (.mmc4RPrg a) := ⟨rfl, fun _ => rfl⟩
theorem mmc2VrChr (a : Addr) : Statement (.mmc2VrChr a) := ⟨rfl, fun _ => rfl⟩
theorem mmc4VrChr (a : Addr) : Statement (.mmc4VrChr a) := ⟨rfl, fun _ => rfl⟩
theorem mmc24VwChr (a : Addr) (d : Byte) : Statement (.mmc24VwChr a d) := ⟨rfl, fun _ => rfl⟩
theorem mmc3RPrgram (a : Addr) : Statement (.mmc3RPrgram a) := ⟨rfl, fun _ => rfl⟩
theorem mmc3WPrgram (a : Addr) (d : Byte) : Statement (.mmc3WPrgram a d) := ⟨rfl, fun _ => rfl⟩
theorem mmc3RPrg (a : Addr) : Statement (.mmc3RPrg a) := ⟨rfl, fun _ => rfl⟩
theorem mmc3WBankselect (a : Addr) (d : Byte) : Statement (.mmc3WBankselect a d) := ⟨rfl, fun _ => rfl⟩
theorem mmc3WBankdata (a : Addr) (d : Byte) : Statement (.mmc3WBankdata a d) := ⟨rfl, fun _ => rfl⟩
theorem mmc3WMirror (a : Addr) (d : Byte) : Statement (.mmc3WMirror a d) := ⟨rfl, fun _ => rfl⟩
theorem mmc3WRamprotect (a : Addr) (d : Byte) : Statement (.mmc3WRamprotect a d) := ⟨rfl, fun _ => rfl⟩
theorem mmc3WIrqlatch (a : Addr) (d : Byte) : Statement (.mmc3WIrqlatch a d) := ⟨rfl, fun _ => rfl⟩
theorem mmc3WIrqreload (a : Addr) (d : Byte) : Statement (.mmc3WIrqreload a d) := ⟨rfl, fun _ => rfl⟩
theorem mmc3WIrqdisable (a : Addr) (d : Byte) : Statement (.mmc3WIrqdisable a d) := ⟨rfl, fun _ => rfl⟩
theorem mmc3WIrqenable (a : Addr) (d : Byte) : Statement (.mmc3WIrqenable a d) := ⟨rfl, fun _ => rfl⟩
theorem mmc3VrChr (a : Addr) : Statement (.mmc3VrChr a) := ⟨rfl, fun _ => rfl⟩
theorem mmc3VwChr (a : Addr) (d : Byte) : Statement (.mmc3VwChr a d) := ⟨rfl, fun _ => rfl⟩
theorem mmc3Vc (scanline cycle : BitVec 16) (showBackground showSprites : Bool) : Statement (.mmc3Vc scanline cycle showBackground showSprites) := ⟨rfl, fun _ => rfl⟩

end Sys2Proof.Laws.Encoding
end

