-- ==== Sys2Proof/Laws/Step.lean ====
section
/-! SUPPORT. What one step can do: cite this instead of unfolding `step`. -/

namespace Sys2Proof.Machine

/-- A step that answers a next state was idle, or ran the instruction of the oldest pending request. -/
theorem step_next {s t : State} :
    step s = .next t ↔
      (s.pending = [] ∧ t = s) ∨
        ∃ r rest i, s.pending = r :: rest ∧ decode s.params s.variant r = .ok i ∧ exec i (s.taken rest) = .next t := by
  unfold step
  cases hp : s.pending with
  | nil => simp [eq_comm]
  | cons r rest =>
    cases hd : decode s.params s.variant r with
    | ok i => simp [hd]
    | error e => cases hf : s.fault <;> simp [hd, State.refuse, hf]

end Sys2Proof.Machine
end

