-- ==== Sys2Proof/Tests/Slice0.lean ====
section
/-! SUPPORT. Tests: each check of WellFormed on an ill-formed term, the decoding of a written request for every row, one
step of each instruction with its result taken from spec/95_test_vectors.md (the vector's name stands in the comment), and
for each statement with hypotheses a state and operands that meet them. -/

namespace Sys2Proof.Tests

open Sys2Proof.Machine

/-! ## Helpers -/

/-- What a next state shows, none where there is none. -/
def after {α : Type} (o : Outcome) (f : State → α) : Option α :=
  match o with
  | .next s => some (f s)
  | _ => none

/-- The result of a transaction. -/
def out (o : Outcome) : Option Result := after o State.result

/-- Why a transaction is refused. -/
def why (o : Outcome) : Option Refusal :=
  match o with
  | .refused r => some r
  | _ => none

/-- The cartridge after a transaction. -/
def cartAfter (o : Outcome) : Option Cartridge := (after o State.cart).bind id

/-- The mapper after a transaction. -/
def mapperAfter (o : Outcome) : Option Mapper := (cartAfter o).map Cartridge.mapper

/-- The MMC5 registers after a transaction. -/
def regsAfter (o : Outcome) : Option Mmc5 := (mapperAfter o).bind asMmc5

/-- The result of a transaction and the mirroring after it, with the events. -/
def mirroring (o : Outcome) : Option (MirrorMode × BitVec 1 × List MirrorEvent) :=
  (cartAfter o).bind fun c => after o fun s => (c.mirrorMode, c.singleScreenPage, s.events)

/-- A cartridge with battery and plain program RAM; the listed bytes of `PrgRom` and `Chr` are not 0. -/
def slot (m : Mapper) (prg chr : Nat) (rom chrBytes : List Host.Cell) : Cartridge where
  prgBanks := prg
  chrBanks := chr
  prgRom := ⟨.const 0, rom⟩
  chr := ⟨.const 0, chrBytes⟩
  prgRam := ⟨.const 0, []⟩
  batteryPresent := true
  mirrorMode := .horizontal
  singleScreenPage := 0
  fourScreenLocked := false
  mapper := m

/-- A wiped block under LENIENT with a cartridge loaded. -/
def on (c : Cartridge) : State := { State.reset with params := { Params.standard with policy := .lenient }, store := ⟨.const 0, []⟩, cart := some c }

/-- The same under STRICT. -/
def strictly (c : Cartridge) : State := { on c with params := .standard }

/-- A wiped block with no cartridge. -/
def bare : State := { State.reset with store := ⟨.const 0, []⟩ }

/-- MMC5 registers as the vectors of 2.5.1 set them, the others 0. -/
def r5 : Mmc5 where
  prgMode := 3
  chrMode := 0
  protect1 := 2
  protect2 := 1
  exramMode := 2
  ntSelect := #v[0, 0, 0, 0]
  fillTile := 0
  fillAttr := 0
  prgRamBank := 0
  prgBank := #v[0x85, 0x02, 0x8C, 0xFF]
  chrA := #v[0, 0, 0, 0, 0, 0, 0, 0]
  chrB := #v[0, 0, 0, 0]
  chrUpper := 0
  lastChrSet := .a
  factor1 := 0
  factor2 := 0
  product := 0
  exRam := ⟨.const 0, []⟩
  videoActive := false

/-- The MMC5 cartridge of 2.5.1: 16 program banks of 8K, each of the listed bytes the number of its bank. -/
def c5 (r : Mmc5) : Cartridge :=
  slot (.mmc5 r) 8 32 [(0xA010, 0x05), (0x18000, 0x0C), (0x18123, 0x0C), (0x1C000, 0x0E), (0x1FFFF, 0x0F)]
    [(0x1403, 5), (0x2010, 8), (0x3405, 13), (0x7234, 28)]

/-- MMC1 registers. -/
def r1 (control chr0 chr1 prg : BitVec 5) : Mmc1 := ⟨0, 0, control, chr0, chr1, prg⟩

/-- The MMC1 cartridge of 2.7. -/
def c1 (r : Mmc1) : Cartridge :=
  slot (.mmc1 r) 16 16 [(0x10000, 8), (0x14000, 0x0A), (0x3C000, 0x1E)] [(0x2000, 2), (0x3000, 3), (0x4000, 4)]

/-- MMC2 and MMC4 registers of 2.8. -/
def r24 (prgSel : Byte) (latch0 latch1 : Latch) : Mmc24 := ⟨prgSel, 1, 2, 3, 4, latch0, latch1⟩

/-- The MMC2 or MMC4 cartridge of 2.8. -/
def c24 (m : Mapper) : Cartridge :=
  slot m 8 16 [(0x8000, 4), (0xA000, 5), (0x1A000, 0x0D), (0x1C000, 0x0E), (0x1E000, 0x0F)]
    [(0x1000, 1), (0x1FD9, 1), (0x2000, 2), (0x2FD8, 2), (0x2FD9, 2), (0x3000, 3), (0x4000, 4), (0x4FDF, 4)]

/-- MMC3 registers of 2.9. -/
def r3 (bankSelect : Byte) : Mmc3 where
  bankSelect := bankSelect
  regs := #v[8, 11, 20, 21, 22, 23, 3, 4]
  ramEnable := true
  ramDeny := false
  irqLatch := 2
  irqCounter := 5
  irqReload := false
  irqEnabled := true
  irqPending := false

/-- The MMC3 cartridge of 2.9. -/
def c3 (r : Mmc3) : Cartridge :=
  slot (.mmc3 r) 16 32 [(0x6000, 3), (0x8000, 4), (0x3C000, 0x1E), (0x3E000, 0x1F)]
    [(8 * 1024, 8), (9 * 1024, 9), (11 * 1024, 11), (20 * 1024, 20), (23 * 1024, 23)]

/-- An image: header bytes 4 to 7, zeros, data. -/
def image (h4 h5 h6 h7 : Byte) (data : List Byte) : List Byte :=
  [0x4E, 0x45, 0x53, 0x1A, h4, h5, h6, h7, 0, 0, 0, 0, 0, 0, 0, 0] ++ data

/-! ## Well-formedness -/

theorem test_wf_bus : ∀ i ∈ [Instr.busRLocal 0x4020, .busWLocal 0x4020 0, .busRCart 0x401F, .busWCart 0x401F 0,
    .mirror 0 65537 0, .mirror 0 1 65537, .genWUnmapped 0x401F 0, .genRUnmapped 0x401F, .genRPrgram6000 0x5FFF,
    .genRPrgram6000 0x8000, .genWPrgram6000 0x5FFF 0, .genWPrgram6000 0x8000 0, .genVrChr8fixed 0x2000,
    .genVwChr8fixed 0x2000 0], i.wf .standard = false := by decide

theorem test_wf_mmc5 : ∀ i ∈ [Instr.mmc5WExram 0x5BFF 0, .mmc5WExram 0x6000 0, .mmc5WPrgram6000 0x5FFF 0,
    .mmc5WPrgram6000 0x8000 0, .mmc5WPrg 0x7FFF 0, .mmc5RExram 0x5BFF, .mmc5RExram 0x6000, .mmc5RPrgram6000 0x8000,
    .mmc5RPrgram6000 0x5FFF, .mmc5RPrg 0x7FFF, .mmc5VrChr 0x2000, .mmc5VwChr 0x2000 0], i.wf .standard = false := by decide

theorem test_wf_simple_cpu : ∀ i ∈ [Instr.nromRPrg 0x7FFF, .nromWPrg 0x7FFF 0, .uxromRPrg 0x7FFF, .uxromWBank 0x7FFF 0,
    .cnromWBank 0x7FFF 0, .axromRPrg 0x7FFF, .axromWReg 0x7FFF 0, .cdRPrg 0x7FFF, .cdWReg 0x7FFF 0, .cpromWReg 0x7FFF 0,
    .m15WReg 0x7FFF 0, .m15RPrg 0x7FFF, .gxRPrg 0x7FFF, .gxWReg 0x7FFF 0, .c71RPrg 0x7FFF, .c71WMirror 0x7FFF 0,
    .c71WMirror 0xA000 0, .c71WRom 0x9FFF 0, .c71WRom 0xC000 0, .c71WBank 0xBFFF 0], i.wf .standard = false := by decide

theorem test_wf_simple_video : ∀ i ∈ [Instr.cnromVrChr 0x2000, .cnromVwChr 0x2000 0, .cdVrChr 0x2000, .cdVwChr 0x2000 0,
    .cpromVrChr 0x2000, .cpromVwChr 0x2000 0, .m15VwChr 0x2000 0, .gxVrChr 0x2000, .gxVwChr 0x2000 0],
    i.wf .standard = false := by decide

theorem test_wf_mmc124 : ∀ i ∈ [Instr.mmc1WSerial 0x7FFF 0, .mmc1RPrg 0x7FFF, .mmc1RPrgram 0x8000, .mmc1WPrgram 0x5FFF 0,
    .mmc1VrChr 0x2000, .mmc1VwChr 0x2000 0, .mmc24WRom 0xA000 0, .mmc24WPrgsel 0xB000 0, .mmc24WChr0fd 0xAFFF 0,
    .mmc24WChr0fe 0xD000 0, .mmc24WChr1fd 0xCFFF 0, .mmc24WChr1fe 0xF000 0, .mmc24WMirror 0xEFFF 0, .mmc2RPrg 0x7FFF,
    .mmc4RPrg 0x7FFF, .mmc2VrChr 0x2000, .mmc4VrChr 0x2000, .mmc24VwChr 0x2000 0], i.wf .standard = false := by decide

theorem test_wf_mmc3 : ∀ i ∈ [Instr.mmc3RPrgram 0x8000, .mmc3WPrgram 0x5FFF 0, .mmc3RPrg 0x7FFF, .mmc3WBankselect 0x8001 0,
    .mmc3WBankselect 0xA000 0, .mmc3WBankdata 0x8000 0, .mmc3WMirror 0xA001 0, .mmc3WRamprotect 0xA000 0,
    .mmc3WIrqlatch 0xC001 0, .mmc3WIrqreload 0xC000 0, .mmc3WIrqdisable 0xE001 0, .mmc3WIrqenable 0xE000 0,
    .mmc3VrChr 0x2000, .mmc3VwChr 0x2000 0], i.wf .standard = false := by decide

/-! ## Decoding: requests written from 30 R72 and the rows of 30 R84 to R88 -/

/-- The request decodes to the instruction when the variant is loaded. -/
def reads (v : Variant) (f : Format) (operands : List Byte) (i : Instr) : Bool :=
  (decode .standard (some v) ⟨f, operands⟩).toOption == some i

theorem test_decode_bus :
    (reads .nrom .busRead [0x23, 0x19] (.busRLocal 0x1923) && reads .nrom .busWrite [0xFF, 0x3F, 0xAB] (.busWLocal 0x3FFF 0xAB) &&
      reads .mmc5 .busRead [0x05, 0x52] (.busRCart 0x5205) && reads .mmc5 .busWrite [0xFF, 0xFF, 0x56] (.busWCart 0xFFFF 0x56) &&
      reads .nrom .configureMirror [0, 0xF0, 0, 1, 0, 0, 0, 1] (.mirror 0xF000 0x100 0x10000) &&
      reads .nrom .resetConfiguration [] .resetcfg && reads .nrom .wipe [] .wipe && reads .nrom .load [1, 2] (.load [1, 2]) &&
      reads .nrom .unload [] .unload && reads .nrom .saveLoad [7] (.saveload [7]) && reads .nrom .saveDump [] .savedump &&
      reads .nrom .name [] .name) = true := by decide

theorem test_decode_shared :
    (reads .nrom .cpuWrite [0x00, 0x50, 0xFF] (.genWUnmapped 0x5000 0xFF) && reads .mmc5 .cpuRead [0x00, 0x51] (.genRUnmapped 0x5100) &&
      reads .axrom .cpuRead [0x05, 0x60] (.genRPrgram6000 0x6005) && reads .mmc4 .cpuWrite [0xFF, 0x7F, 1] (.genWPrgram6000 0x7FFF 1) &&
      reads .m15 .vidRead [0x34, 0x12] (.genVrChr8fixed 0x1234) && reads .uxrom .vidWrite [0x10, 0x00, 0x3C] (.genVwChr8fixed 0x0010 0x3C) &&
      reads .mmc1 .videoCycle [0xFF, 0xFF, 0x04, 0x01, 3] (.genVcNop 0xFFFF 260 true true)) = true := by decide

theorem test_decode_mmc5_registers :
    (reads .mmc5 .cpuWrite [0x00, 0x51, 0xFE] (.mmc5WPrgmode 0xFE) && reads .mmc5 .cpuWrite [0x01, 0x51, 7] (.mmc5WChrmode 7) &&
      reads .mmc5 .cpuWrite [0x02, 0x51, 2] (.mmc5WProtect1 2) && reads .mmc5 .cpuWrite [0x03, 0x51, 1] (.mmc5WProtect2 1) &&
      reads .mmc5 .cpuWrite [0x04, 0x51, 6] (.mmc5WExrammode 6) && reads .mmc5 .cpuWrite [0x05, 0x51, 0x44] (.mmc5WNtmap 0x44) &&
      reads .mmc5 .cpuWrite [0x06, 0x51, 0x20] (.mmc5WFilltile 0x20) && reads .mmc5 .cpuWrite [0x07, 0x51, 0xFF] (.mmc5WFillattr 0xFF) &&
      reads .mmc5 .cpuWrite [0x13, 0x51, 0x81] (.mmc5WPrgrambank 0x81) && reads .mmc5 .cpuWrite [0x14, 0x51, 1] (.mmc5WPrgbank0 1) &&
      reads .mmc5 .cpuWrite [0x15, 0x51, 2] (.mmc5WPrgbank1 2) && reads .mmc5 .cpuWrite [0x16, 0x51, 3] (.mmc5WPrgbank2 3) &&
      reads .mmc5 .cpuWrite [0x17, 0x51, 4] (.mmc5WPrgbank3 4)) = true := by decide

theorem test_decode_mmc5_rest :
    (reads .mmc5 .cpuWrite [0x30, 0x51, 3] (.mmc5WChrupper 3) && reads .mmc5 .cpuWrite [0x05, 0x52, 12] (.mmc5WMult1 12) &&
      reads .mmc5 .cpuWrite [0x06, 0x52, 12] (.mmc5WMult2 12) && reads .mmc5 .cpuWrite [0x27, 0x51, 2] (.mmc5WChra 7 2) &&
      reads .mmc5 .cpuWrite [0x2B, 0x51, 7] (.mmc5WChrb 3 7) && reads .mmc5 .cpuWrite [0x03, 0x5C, 0x5E] (.mmc5WExram 0x5C03 0x5E) &&
      reads .mmc5 .cpuWrite [0x00, 0x60, 0x33] (.mmc5WPrgram6000 0x6000 0x33) && reads .mmc5 .cpuWrite [0x00, 0x80, 0] (.mmc5WPrg 0x8000 0) &&
      reads .mmc5 .cpuRead [0x05, 0x52] .mmc5RProdlo && reads .mmc5 .cpuRead [0x06, 0x52] .mmc5RProdhi &&
      reads .mmc5 .cpuRead [0xFF, 0x5F] (.mmc5RExram 0x5FFF) && reads .mmc5 .cpuRead [0x00, 0x60] (.mmc5RPrgram6000 0x6000) &&
      reads .mmc5 .cpuRead [0xFC, 0xFF] (.mmc5RPrg 0xFFFC) && reads .mmc5 .vidRead [0x03, 0x08] (.mmc5VrChr 0x0803) &&
      reads .mmc5 .vidWrite [0x00, 0x04, 0xAA] (.mmc5VwChr 0x0400 0xAA) &&
      reads .mmc5 .videoCycle [240, 0, 5, 0, 1] (.mmc5Vc 240 5 true false)) = true := by decide

theorem test_decode_simple_program :
    (reads .cprom .cpuRead [0x00, 0x80] (.nromRPrg 0x8000) && reads .nrom .cpuWrite [0xFF, 0xFF, 0] (.nromWPrg 0xFFFF 0) &&
      reads .uxrom .cpuRead [0x00, 0xC0] (.uxromRPrg 0xC000) && reads .uxrom .cpuWrite [0xF0, 0xFF, 3] (.uxromWBank 0xFFF0 3) &&
      reads .cnrom .cpuWrite [0x00, 0x80, 5] (.cnromWBank 0x8000 5) && reads .axrom .cpuRead [0x00, 0x80] (.axromRPrg 0x8000) &&
      reads .axrom .cpuWrite [0x00, 0x80, 0x12] (.axromWReg 0x8000 0x12) && reads .colorDreams .cpuRead [0x00, 0x90] (.cdRPrg 0x9000) &&
      reads .colorDreams .cpuWrite [0x00, 0x80, 0x21] (.cdWReg 0x8000 0x21) && reads .cprom .cpuWrite [0x00, 0x80, 2] (.cpromWReg 0x8000 2) &&
      reads .m15 .cpuWrite [0x02, 0x80, 0x88] (.m15WReg 0x8002 0x88) && reads .m15 .cpuRead [0x23, 0xE1] (.m15RPrg 0xE123)) = true := by decide

theorem test_decode_simple_rest :
    (reads .gxrom .cpuRead [0x00, 0x80] (.gxRPrg 0x8000) && reads .gxrom .cpuWrite [0x00, 0x80, 0x13] (.gxWReg 0x8000 0x13) &&
      reads .camerica71 .cpuRead [0xFC, 0xFF] (.c71RPrg 0xFFFC) && reads .camerica71 .cpuWrite [0x00, 0x90, 0x10] (.c71WMirror 0x9000 0x10) &&
      reads .camerica71 .cpuWrite [0x00, 0xA0, 0] (.c71WRom 0xA000 0) && reads .camerica71 .cpuWrite [0x00, 0xC0, 4] (.c71WBank 0xC000 4) &&
      reads .cnrom .vidRead [0x10, 0x00] (.cnromVrChr 0x0010) && reads .cnrom .vidWrite [0x00, 0x00, 0] (.cnromVwChr 0 0) &&
      reads .colorDreams .vidRead [0x01, 0x00] (.cdVrChr 1) && reads .colorDreams .vidWrite [0xFF, 0x1F, 9] (.cdVwChr 0x1FFF 9) &&
      reads .cprom .vidRead [0x04, 0x10] (.cpromVrChr 0x1004) && reads .cprom .vidWrite [0x00, 0x10, 0x77] (.cpromVwChr 0x1000 0x77) &&
      reads .m15 .vidWrite [0x00, 0x00, 1] (.m15VwChr 0 1) && reads .gxrom .vidRead [0x00, 0x00] (.gxVrChr 0) &&
      reads .gxrom .vidWrite [0x00, 0x00, 1] (.gxVwChr 0 1)) = true := by decide

theorem test_decode_mmc1_mmc24 :
    (reads .mmc1 .cpuWrite [0x00, 0xE0, 1] (.mmc1WSerial 0xE000 1) && reads .mmc1 .cpuRead [0x00, 0xC0] (.mmc1RPrg 0xC000) &&
      reads .mmc1 .cpuRead [0x00, 0x60] (.mmc1RPrgram 0x6000) && reads .mmc1 .cpuWrite [0x00, 0x60, 1] (.mmc1WPrgram 0x6000 1) &&
      reads .mmc1 .vidRead [0x00, 0x10] (.mmc1VrChr 0x1000) && reads .mmc1 .vidWrite [0x00, 0x10, 0x3C] (.mmc1VwChr 0x1000 0x3C) &&
      reads .mmc2 .cpuWrite [0x00, 0x80, 0] (.mmc24WRom 0x8000 0) && reads .mmc4 .cpuWrite [0x00, 0xA0, 5] (.mmc24WPrgsel 0xA000 5) &&
      reads .mmc2 .cpuWrite [0x00, 0xB0, 1] (.mmc24WChr0fd 0xB000 1) && reads .mmc4 .cpuWrite [0x00, 0xC0, 2] (.mmc24WChr0fe 0xC000 2) &&
      reads .mmc2 .cpuWrite [0x00, 0xD0, 3] (.mmc24WChr1fd 0xD000 3) && reads .mmc4 .cpuWrite [0xFF, 0xEF, 4] (.mmc24WChr1fe 0xEFFF 4)) = true := by
  decide

theorem test_decode_mmc24_mmc3 :
    (reads .mmc2 .cpuWrite [0x00, 0xF0, 1] (.mmc24WMirror 0xF000 1) && reads .mmc2 .cpuRead [0x00, 0xA0] (.mmc2RPrg 0xA000) &&
      reads .mmc4 .cpuRead [0x00, 0xC0] (.mmc4RPrg 0xC000) && reads .mmc2 .vidRead [0xD9, 0x0F] (.mmc2VrChr 0x0FD9) &&
      reads .mmc4 .vidRead [0xD9, 0x0F] (.mmc4VrChr 0x0FD9) && reads .mmc4 .vidWrite [0xD8, 0x0F, 0] (.mmc24VwChr 0x0FD8 0) &&
      reads .mmc3 .cpuRead [0x00, 0x60] (.mmc3RPrgram 0x6000) && reads .mmc3 .cpuWrite [0x00, 0x60, 1] (.mmc3WPrgram 0x6000 1) &&
      reads .mmc3 .cpuRead [0x00, 0xE0] (.mmc3RPrg 0xE000) && reads .mmc3 .cpuWrite [0xFE, 0x9F, 6] (.mmc3WBankselect 0x9FFE 6) &&
      reads .mmc3 .cpuWrite [0xFF, 0x9F, 5] (.mmc3WBankdata 0x9FFF 5)) = true := by decide

theorem test_decode_mmc3 :
    (reads .mmc3 .cpuWrite [0xFE, 0xBF, 1] (.mmc3WMirror 0xBFFE 1) && reads .mmc3 .cpuWrite [0xFF, 0xBF, 0xC0] (.mmc3WRamprotect 0xBFFF 0xC0) &&
      reads .mmc3 .cpuWrite [0x00, 0xC0, 2] (.mmc3WIrqlatch 0xC000 2) && reads .mmc3 .cpuWrite [0x01, 0xC0, 0] (.mmc3WIrqreload 0xC001 0) &&
      reads .mmc3 .cpuWrite [0xFE, 0xFF, 0] (.mmc3WIrqdisable 0xFFFE 0) && reads .mmc3 .cpuWrite [0x01, 0xE0, 0] (.mmc3WIrqenable 0xE001 0) &&
      reads .mmc3 .vidRead [0x00, 0x1C] (.mmc3VrChr 0x1C00) && reads .mmc3 .vidWrite [0x00, 0x00, 0] (.mmc3VwChr 0 0) &&
      reads .mmc3 .videoCycle [0x05, 0x01, 0x04, 0x01, 2] (.mmc3Vc 261 260 false true)) = true := by decide

/-- Requests that are no transaction: wrong operand bytes (30 R72), no cartridge and a bad video address (60 R267). -/
theorem test_decode_refuses :
    decode .standard (some .nrom) ⟨.busRead, [0]⟩ = .error .badOperands ∧
    decode .standard (some .nrom) ⟨.wipe, [0]⟩ = .error .badOperands ∧
    decode .standard (some .mmc3) ⟨.videoCycle, [0, 0, 0, 0, 4]⟩ = .error .badOperands ∧
    decode .standard none ⟨.configureMirror, [0, 0, 1, 0, 1, 0, 0, 0]⟩ = .error .badOperands ∧
    decode .standard none ⟨.vidRead, [0x00, 0x20]⟩ = .error .noCartridge ∧
    decode .standard (some .nrom) ⟨.vidRead, [0x00, 0x20]⟩ = .error .badVideoAddress ∧
    decode .standard (some .nrom) ⟨.cpuRead, [0x1F, 0x40]⟩ = .error .noRow := ⟨rfl, rfl, rfl, rfl, rfl, rfl, rfl⟩

/-- A word of the opcode table runs as the first instruction after reset (log 2, log 12). -/
theorem test_table_word : decodeTableWord 16 0xE001 = some (.mmc3WIrqenable 0xE001 0) ∧
    (after (step (State.reset.withFetchWord 16 0xE001)) fun s => (s.result, s.pending)) = some (.ok, []) := by decide

/-! ## Bus and host, vectors of 2.1, 2.2, 2.11 -/

/-- The regions of B4. -/
def regions : List MirrorRegion := [⟨0x0000, 0x0800, 0x2000⟩, ⟨0x2000, 0x0008, 0x2000⟩]

/-- B3. -/
theorem test_busRLocal_alias :
    out (exec (.busRLocal 0x1923) { bare with mirrors := regions, store := ⟨.const 0, [(0x0123, 0x11)]⟩ }) = some (.data 0x11) := by
  decide

/-- B8: the newest region decides, once. -/
theorem test_busRLocal_once :
    out (exec (.busRLocal 0x0923) { bare with mirrors := regions ++ [⟨0, 0x0100, 0x0800⟩], store := ⟨.const 0, [(0x0123, 0x11)]⟩ }) =
      some (.data 0x11) := by decide

/-- B4. -/
theorem test_busWLocal_alias :
    after (exec (.busWLocal 0x3FFF 0xAB) { bare with mirrors := regions }) (fun s => (s.result, s.store)) =
      some (.ok, ⟨.const 0, [(0x2007, 0xAB)]⟩) := by decide

/-- B12: a region has no effect in the cartridge range. -/
theorem test_busRCart_mmc5 :
    out (exec (.busRCart 0x5205) { on (c5 { r5 with product := 0x9C40 }) with mirrors := [⟨0x4000, 0x0010, 0x4000⟩] }) =
      some (.data 0x40) := by decide

/-- B6. -/
theorem test_busRCart_empty : why (exec (.busRCart 0x4020) bare) = some .noCartridge := by decide

/-- W2 through the bus, E1: the error is recorded under STRICT. -/
theorem test_busWCart_strict :
    after (exec (.busWCart 0x8000 0x11) (strictly (c5 r5))) (fun s => (s.result, s.fault)) =
      some (.error (.illegalWrite 0x8000 0x11), some (.illegalWrite 0x8000 0x11)) := by decide

/-- E3: LENIENT. -/
theorem test_busWCart_lenient :
    after (exec (.busWCart 0x8000 0) (on (slot .nrom 1 0 [] []))) (fun s => (s.result, s.fault)) =
      some (.error (.illegalWrite 0x8000 0), none) := by decide

/-- B9. -/
theorem test_mirror_error :
    after (exec (.mirror 0 0 0x0800) bare) (fun s => (s.result, s.mirrors, s.fault)) = some (.error (.mirrorConfig 0), [], none) := by
  decide

/-- Program A, lines 2 and 3. -/
theorem test_mirror :
    after (exec (.mirror 0x2000 0x0008 0x2000) { bare with mirrors := [⟨0, 0x0800, 0x2000⟩] }) (fun s => (s.result, s.mirrors)) =
      some (.ok, regions) := by decide

/-- B13. -/
theorem test_resetcfg : after (exec .resetcfg { bare with mirrors := regions }) (fun s => (s.result, s.mirrors)) = some (.ok, []) := by
  decide

/-- B14. -/
theorem test_wipe :
    after (exec .wipe { State.reset with mirrors := regions }) (fun s => (s.store.read 0x0123, s.mirrors)) = some (0, regions) := by
  decide

/-- L1 and L3. -/
theorem test_load_bad :
    out (exec (.load (List.replicate 15 0)) bare) = some (.error (.format .len)) ∧
    out (exec (.load [0x4E, 0x45, 0x53, 0, 1, 0, 0, 0, 0, 0, 0, 0, 0, 0, 0, 0]) bare) = some (.error (.format .magic)) ∧
    out (exec (.load (image 0 1 0x80 0 [])) bare) = some (.error (.format .prgBanks)) ∧
    out (exec (.load (image 1 0 0 0 [7])) bare) = some (.error (.format .len)) := by decide

/-- The sixth header byte of the image of `test_load_mmc5`. -/
theorem image_h6 (data : List Byte) : headerByte (image 1 0 0x51 0 data) 6 = 0x51 := rfl

/-- An image of one program bank and character RAM has the length it declares (30 R78). -/
theorem image_checked {data : List Byte} (hd : data.length = 16384) : checkImage .standard (image 1 0 0x51 0 data) = .ok .mmc5 := by
  have hl : (image 1 0 0x51 0 data).length = 16400 := by simp [image, hd]
  have hp : imagePrgBanks (image 1 0 0x51 0 data) = 1 := rfl
  have hc : imageChrBanks (image 1 0 0x51 0 data) = 0 := rfl
  have hs : imageDataStart (image 1 0 0x51 0 data) = 16 := by rw [imageDataStart, image_h6]; rfl
  have hn : imageNeed (image 1 0 0x51 0 data) = 16400 := by rw [imageNeed, hp, hc, hs]; decide
  have hv : Params.standard.variantOf (imageMapperId (image 1 0 0x51 0 data)) = some .mmc5 := by
    have h7 : headerByte (image 1 0 0x51 0 data) 7 = 0 := rfl
    rw [imageMapperId, h7, image_h6]
    decide
  have ht : (image 1 0 0x51 0 data).take 4 = magicBytes := rfl
  rw [checkImage, hl, hn, hv, hp, ht]
  rfl

/-- L12: id 5, `VERTICAL`; the reset state of MMC5 (70 R286). -/
theorem test_load_mmc5 (data : List Byte) (hd : data.length = 16384) :
    exec (.load (image 1 0 0x51 0 data)) bare =
        .next { bare with cart := some (imageCartridge .mmc5 (image 1 0 0x51 0 data) 1), draws := 4, result := .ok } ∧
      imageMirrorMode (image 1 0 0x51 0 data) = .vertical ∧
      (asMmc5 (imageCartridge .mmc5 (image 1 0 0x51 0 data) 1).mapper).map (fun r => (r.prgMode, r.prgBank[3], r.videoActive)) =
        some (3, 0xFF, false) := by
  refine ⟨?_, ?_, rfl⟩
  · rw [exec, execLoad, show bare.params = .standard from rfl, image_checked hd]
    rfl
  · rw [imageMirrorMode, image_h6]
    rfl

/-- H3. -/
theorem test_unload : after (exec .unload (on (c5 r5))) (fun s => (s.result, s.cart)) = some (.ok, none) := by decide

/-- H1. -/
theorem test_saveload (bytes : List Byte) (h : bytes.length = 8192) :
    (cartAfter (exec (.saveload bytes) (on (slot .nrom 1 0 [] [])))).map (fun c => c.prgRam) = some ⟨.data bytes, []⟩ := by
  have hp : (on (slot .nrom 1 0 [] [])).params.prgRamSize .nrom = 8192 := rfl
  have hs : saveLoadSel (on (slot .nrom 1 0 [] [])).params bytes (slot .nrom 1 0 [] []) = .ok () := by
    simp [saveLoadSel, slot, Cartridge.prgRamLen, Cartridge.variant, Mapper.variant, h]
    exact hp.symm
  have hc : (on (slot .nrom 1 0 [] [])).fault = none ∧ (on (slot .nrom 1 0 [] [])).cart = some (slot .nrom 1 0 [] []) :=
    ⟨rfl, rfl⟩
  simp only [exec, execSaveload, State.onCart, hc.1, hc.2, hs]
  rfl

/-- E11. -/
theorem test_saveload_short : why (exec (.saveload [1, 2, 3]) (on (slot .nrom 1 0 [] []))) = some .badSaveLength := by decide

/-- E10. -/
theorem test_savedump_refused :
    why (exec .savedump (on { slot .nrom 1 0 [] [] with batteryPresent := false })) = some .noBattery := by decide

/-- H2: the length of a dump. -/
theorem test_savedump :
    (out (exec .savedump (on (slot .nrom 1 0 [] [])))).map (fun r => match r with
      | .bytes bs => bs.length
      | _ => 0) = some 8192 := by
  have h : exec .savedump (on (slot .nrom 1 0 [] [])) =
      .next ((on (slot .nrom 1 0 [] [])).finish (.bytes ((slot .nrom 1 0 [] []).prgRam.dump 8192))) := rfl
  simp [h, out, after, Memory.dump]

/-- G12. -/
theorem test_name : out (exec .name (on (slot (.m15 0 0) 1 0 [] []))) = some (.name "100-in-1") := rfl

/-- E2. -/
theorem test_faulted :
    why (exec .name { on (c5 r5) with fault := some (.illegalWrite 0x8000 0) }) = some .faulted ∧
    why (exec (.busRLocal 0) { on (c5 r5) with fault := some (.illegalWrite 0x8000 0) }) = some .faulted := by decide

/-! ## Shared rows, vectors of 2.4 -/

/-- G1. -/
theorem test_genWUnmapped : out (exec (.genWUnmapped 0x5000 0xFF) (on (slot .nrom 1 0 [] []))) = some .ok := by decide

/-- G2: the byte is a draw, so only the used group shows. -/
theorem test_genRUnmapped : after (exec (.genRUnmapped 0x5000) (on (slot .nrom 1 0 [] []))) State.draws = some 2 := by decide

/-- G3. -/
theorem test_genRPrgram6000 :
    out (exec (.genRPrgram6000 0x6005) (on { slot .nrom 1 0 [] [] with prgRam := ⟨.const 0, [(5, 0x99)]⟩ })) = some (.data 0x99) := by
  decide

/-- G4. -/
theorem test_genWPrgram6000 :
    (cartAfter (exec (.genWPrgram6000 0x7FFF 1) (on (slot (.uxrom 0) 1 0 [] [])))).map (fun c => c.prgRam.cells) = some [(0x1FFF, 1)] := by
  decide

/-- G5. -/
theorem test_genVrChr8fixed : out (exec (.genVrChr8fixed 0x1234) (on (slot .nrom 1 1 [] [(0x1234, 7)]))) = some (.data 7) := by decide

/-- G6. -/
theorem test_genVwChr8fixed_rom :
    out (exec (.genVwChr8fixed 0 0xFF) (on (slot .nrom 1 1 [] []))) = some (.error (.illegalWrite 0 0xFF)) := by decide

/-- G7. -/
theorem test_genVwChr8fixed_ram :
    (cartAfter (exec (.genVwChr8fixed 0x0010 0x3C) (on (slot .nrom 1 0 [] [])))).map (fun c => c.chr.cells) = some [(0x10, 0x3C)] := by
  decide

/-- G8. -/
theorem test_genVcNop :
    after (exec (.genVcNop 10 260 true true) (on (slot .nrom 1 0 [] []))) (fun s => (s.cart, s.events)) =
      some (some (slot .nrom 1 0 [] []), []) := by decide

/-! ## MMC5, vectors of 2.5 -/

/-- C1. -/
theorem test_mmc5WPrgmode : (regsAfter (exec (.mmc5WPrgmode 0xFE) (on (c5 r5)))).map Mmc5.prgMode = some 2 := by decide

/-- C2. -/
theorem test_mmc5WChrmode : (regsAfter (exec (.mmc5WChrmode 7) (on (c5 r5)))).map Mmc5.chrMode = some 3 := by decide

/-- Program B, line 7. -/
theorem test_mmc5WProtect1 : (regsAfter (exec (.mmc5WProtect1 0) (on (c5 r5)))).map Mmc5.protect1 = some 0 := by decide

/-- Program B, line 8. -/
theorem test_mmc5WProtect2 : (regsAfter (exec (.mmc5WProtect2 1) (on (c5 r5)))).map Mmc5.protect2 = some 1 := by decide

/-- C3. -/
theorem test_mmc5WExrammode : (regsAfter (exec (.mmc5WExrammode 6) (on (c5 r5)))).map Mmc5.exramMode = some 2 := by decide

/-- C4. -/
theorem test_mmc5WNtmap : (regsAfter (exec (.mmc5WNtmap 0x44) (on (c5 r5)))).map Mmc5.ntSelect = some #v[0, 1, 0, 1] := by decide

/-- C5. -/
theorem test_mmc5WFilltile : (regsAfter (exec (.mmc5WFilltile 0x20) (on (c5 r5)))).map Mmc5.fillTile = some 0x20 := by decide

/-- C5. -/
theorem test_mmc5WFillattr : (regsAfter (exec (.mmc5WFillattr 0xFF) (on (c5 r5)))).map Mmc5.fillAttr = some 3 := by decide

/-- C6. -/
theorem test_mmc5WPrgrambank : (regsAfter (exec (.mmc5WPrgrambank 0x81) (on (c5 r5)))).map Mmc5.prgRamBank = some 1 := by decide

/-- P13. -/
theorem test_mmc5WPrgbank0 :
    (regsAfter (exec (.mmc5WPrgbank0 0x95) (on (c5 r5)))).map Mmc5.prgBank = some #v[0x95, 0x02, 0x8C, 0xFF] := by decide

/-- 1.5. -/
theorem test_mmc5WPrgbank1 :
    (regsAfter (exec (.mmc5WPrgbank1 0) (on (c5 r5)))).map Mmc5.prgBank = some #v[0x85, 0, 0x8C, 0xFF] := by decide

/-- W13. -/
theorem test_mmc5WPrgbank2 :
    (regsAfter (exec (.mmc5WPrgbank2 3) (on (c5 r5)))).map Mmc5.prgBank = some #v[0x85, 0x02, 3, 0xFF] := by decide

/-- P14. -/
theorem test_mmc5WPrgbank3 :
    (regsAfter (exec (.mmc5WPrgbank3 7) (on (c5 r5)))).map Mmc5.prgBank = some #v[0x85, 0x02, 0x8C, 7] := by decide

/-- C9. -/
theorem test_mmc5WChrupper : (regsAfter (exec (.mmc5WChrupper 0xFF) (on (c5 r5)))).map Mmc5.chrUpper = some 3 := by decide

/-- C9. -/
theorem test_mmc5WChra :
    (regsAfter (exec (.mmc5WChra 0 0xFF) (on (c5 { r5 with chrUpper := 3, lastChrSet := .b })))).map (fun r => (r.chrA, r.lastChrSet)) =
      some (#v[0x3FF, 0, 0, 0, 0, 0, 0, 0], .a) := by decide

/-- C11. -/
theorem test_mmc5WChrb :
    (regsAfter (exec (.mmc5WChrb 3 7) (on (c5 r5)))).map (fun r => (r.chrB, r.lastChrSet)) = some (#v[0, 0, 0, 7], .b) := by decide

/-- C12. -/
theorem test_mmc5WMult1 :
    (regsAfter (exec (.mmc5WMult1 255) (on (c5 { r5 with factor2 := 255 })))).map (fun r => (r.factor1, r.product)) = some (255, 0xFE01) := by
  decide

/-- 1.4. -/
theorem test_mmc5WMult2 :
    (regsAfter (exec (.mmc5WMult2 200) (on (c5 { r5 with factor1 := 200 })))).map (fun r => (r.factor2, r.product)) = some (200, 0x9C40) := by
  decide

/-- 1.4. -/
theorem test_mmc5RProdlo : out (exec .mmc5RProdlo (on (c5 { r5 with product := 0x9C40 }))) = some (.data 0x40) := by decide

/-- 1.4. -/
theorem test_mmc5RProdhi : out (exec .mmc5RProdhi (on (c5 { r5 with product := 0x9C40 }))) = some (.data 0x9C) := by decide

/-- X1. -/
theorem test_mmc5WExram :
    (regsAfter (exec (.mmc5WExram 0x5C03 0x5E) (on (c5 r5)))).map (fun r => r.exRam.cells) = some [(3, 0x5E)] := by decide

/-- X4. -/
theorem test_mmc5WExram_dropped :
    (regsAfter (exec (.mmc5WExram 0x5C03 0x11) (on (c5 { r5 with exramMode := 0 })))).map (fun r => r.exRam.cells) = some [] := by decide

/-- X1. -/
theorem test_mmc5RExram :
    out (exec (.mmc5RExram 0x5C03) (on (c5 { r5 with exRam := ⟨.const 0, [(3, 0x5E)]⟩ }))) = some (.data 0x5E) := by decide

/-- X3. -/
theorem test_mmc5RExram_open : after (exec (.mmc5RExram 0x5C03) (on (c5 { r5 with exramMode := 0 }))) State.draws = some 2 := by decide

/-- W9. -/
theorem test_mmc5RPrgram6000 :
    out (exec (.mmc5RPrgram6000 0x6000) (on { c5 { r5 with prgRamBank := 9 } with prgRam := ⟨.const 0, [(0x2000, 0x33)]⟩ })) =
      some (.data 0x33) := by decide

/-- W8. -/
theorem test_mmc5WPrgram6000 :
    (cartAfter (exec (.mmc5WPrgram6000 0x6000 0x33) (on (c5 { r5 with prgRamBank := 1 })))).map (fun c => c.prgRam.cells) =
      some [(0x2000, 0x33)] := by decide

/-- W12. -/
theorem test_mmc5WPrgram6000_protected :
    out (exec (.mmc5WPrgram6000 0x6000 0x55) (on (c5 { r5 with protect1 := 3 }))) = some (.error (.writeProtected 0x6000 0x55)) := by
  decide

/-- P2. -/
theorem test_mmc5RPrg_mode0 : out (exec (.mmc5RPrg 0x8000) (on (c5 { r5 with prgMode := 0 }))) = some (.data 0x0C) := by decide

/-- P10. -/
theorem test_mmc5RPrg_mode3 : out (exec (.mmc5RPrg 0x8010) (on (c5 r5))) = some (.data 0x05) := by decide

/-- W6. -/
theorem test_mmc5WPrg :
    (cartAfter (exec (.mmc5WPrg 0x8001 0x22) (on (c5 { r5 with prgMode := 1 })))).map (fun c => c.prgRam.cells) = some [(0x4001, 0x22)] := by
  decide

/-- W3: the ROM check comes first. -/
theorem test_mmc5WPrg_rom :
    out (exec (.mmc5WPrg 0x8000 0x11) (on (c5 { r5 with protect1 := 0 }))) = some (.error (.illegalWrite 0x8000 0x11)) := by decide

/-- V1. -/
theorem test_mmc5VrChr_setA :
    out (exec (.mmc5VrChr 0x0803) (on (c5 { r5 with chrMode := 3, chrA := #v[0, 0, 5, 0, 0, 0, 0, 0] }))) = some (.data 5) := by decide

/-- V5. -/
theorem test_mmc5VrChr_setB :
    out (exec (.mmc5VrChr 0x0405) (on (c5 { r5 with chrMode := 2, lastChrSet := .b, chrB := #v[0, 6, 0, 7] }))) = some (.data 13) := by decide

/-- V11. -/
theorem test_mmc5VwChr :
    (cartAfter (exec (.mmc5VwChr 0x0400 0xAA)
      (on { c5 { r5 with chrMode := 3, chrA := #v[0, 3, 0, 0, 0, 0, 0, 0] } with chrBanks := 0, chr := ⟨.const 0, []⟩ }))).map
        (fun c => c.chr.cells) = some [(0x0C00, 0xAA)] := by decide

/-- X5. -/
theorem test_mmc5Vc : (regsAfter (exec (.mmc5Vc 100 5 false false) (on (c5 r5)))).map Mmc5.videoActive = some true := by decide

/-- X6: the scanline is signed. -/
theorem test_mmc5Vc_minus : (regsAfter (exec (.mmc5Vc 0xFFFF 340 true true) (on (c5 r5)))).map Mmc5.videoActive = some false := by decide

/-! ## Other values of the parameters (93 U14 to U19) -/

/-- A wiped block with the parameters `p` and a cartridge. -/
def under (p : Params) (c : Cartridge) : State := { on c with params := p }

/-- 93 G25: a caller that numbers the pre-render line -1 sets `PRERENDER_SCANLINE = -1`; 261 is then no clock. -/
theorem test_prerender :
    mapperAfter (exec (.mmc3Vc 0xFFFF 260 true true) (under { Params.standard with prerenderScanline := -1 } (c3 (r3 0)))) =
      some (.mmc3 { r3 0 with irqCounter := 4 }) ∧
    mapperAfter (exec (.mmc3Vc 261 260 true true) (under { Params.standard with prerenderScanline := -1 } (c3 (r3 0)))) =
      some (.mmc3 (r3 0)) := by decide

/-- R83, R52: with `CART_BASE = 0x6000` the address 0x5100 is local, and no mapper row is reached there. -/
theorem test_cartBase :
    decode { Params.standard with cartBase := 0x6000 } (some .mmc5) ⟨.busWrite, [0x00, 0x51, 2]⟩ = .ok (.busWLocal 0x5100 2) ∧
    decode { Params.standard with cartBase := 0x6000 } (some .mmc5) ⟨.cpuWrite, [0x00, 0x51, 2]⟩ = .error .noRow ∧
    decode .standard (some .mmc5) ⟨.busWrite, [0x00, 0x51, 2]⟩ = .ok (.busWCart 0x5100 2) := ⟨rfl, rfl, rfl⟩

/-- R143: a program RAM of 4096 bytes repeats through the window. -/
theorem test_prgRamSize :
    out (exec (.genRPrgram6000 0x7005) (under { Params.standard with prgRamSizes := .replicate 14 4096 }
      { slot .nrom 1 0 [] [] with prgRam := ⟨.const 0, [(5, 9)]⟩ })) = some (.data 9) := by decide

/-- R95: an id outside `SUPPORTED_MAPPERS` has no variant. -/
theorem test_supportedMappers :
    { Params.standard with supportedMappers := [(0, .nrom)] }.variantOf 5 = none ∧ Params.standard.variantOf 5 = some .mmc5 := by
  decide

/-! ## Simple variants, vectors of 2.6 -/

/-- S2. -/
theorem test_nromRPrg : out (exec (.nromRPrg 0xC005) (on (slot .nrom 1 0 [(5, 9)] []))) = some (.data 9) := by decide

/-- S4. -/
theorem test_nromWPrg :
    out (exec (.nromWPrg 0xFFFF 0) (on (slot .nrom 1 0 [] []))) = some (.error (.illegalWrite 0xFFFF 0)) := by decide

/-- S5. -/
theorem test_uxromRPrg :
    out (exec (.uxromRPrg 0x8000) (on (slot (.uxrom 0x0A) 8 0 [(0x8000, 4), (0x1C000, 0x0E)] []))) = some (.data 4) ∧
    out (exec (.uxromRPrg 0xC000) (on (slot (.uxrom 0x0A) 8 0 [(0x8000, 4), (0x1C000, 0x0E)] []))) = some (.data 0x0E) := by decide

/-- S6. -/
theorem test_uxromWBank : mapperAfter (exec (.uxromWBank 0xFFF0 3) (on (slot (.uxrom 0) 8 0 [] []))) = some (.uxrom 3) := by decide

/-- S8. -/
theorem test_cnromWBank : mapperAfter (exec (.cnromWBank 0x8000 5) (on (slot (.cnrom 0) 2 4 [] []))) = some (.cnrom 5) := by decide

/-- S8. -/
theorem test_cnromVrChr : out (exec (.cnromVrChr 0x0010) (on (slot (.cnrom 5) 2 4 [] [(0x2010, 2)]))) = some (.data 2) := by decide

/-- S9. -/
theorem test_cnromVwChr : out (exec (.cnromVwChr 0 0) (on (slot (.cnrom 0) 2 4 [] []))) = some (.error (.illegalWrite 0 0)) := by decide

/-- S11. -/
theorem test_axromRPrg : out (exec (.axromRPrg 0x8000) (on (slot (.axrom 0x12) 16 0 [(0x10000, 8)] []))) = some (.data 8) := by decide

/-- S11. -/
theorem test_axromWReg :
    mirroring (exec (.axromWReg 0x8000 0x12) (on (slot (.axrom 0) 16 0 [] []))) = some (.singleScreen, 1, [⟨.singleScreen, 1⟩]) := by decide

/-- G11. -/
theorem test_axromWReg_locked :
    mirroring (exec (.axromWReg 0x8000 0x10)
      (on { slot (.axrom 0) 16 0 [] [] with mirrorMode := .fourScreen, fourScreenLocked := true })) = some (.fourScreen, 0, []) := by decide

/-- S13. -/
theorem test_cdRPrg : out (exec (.cdRPrg 0x9000) (on (slot (.colorDreams 0x21) 8 16 [(0x9000, 4)] []))) = some (.data 4) := by decide

/-- S13. -/
theorem test_cdWReg : mapperAfter (exec (.cdWReg 0x8000 0x21) (on (slot (.colorDreams 0) 8 16 [] []))) = some (.colorDreams 0x21) := by
  decide

/-- S13. -/
theorem test_cdVrChr : out (exec (.cdVrChr 1) (on (slot (.colorDreams 0x21) 8 16 [] [(0x4001, 4)]))) = some (.data 4) := by decide

/-- S15. -/
theorem test_cdVwChr : out (exec (.cdVwChr 0 0) (on (slot (.colorDreams 0) 8 16 [] []))) = some (.error (.illegalWrite 0 0)) := by decide

/-- S16. -/
theorem test_cpromWReg : mapperAfter (exec (.cpromWReg 0x8000 2) (on (slot (.cprom 0) 2 0 [] []))) = some (.cprom 2) := by decide

/-- S17. -/
theorem test_cpromVrChr : out (exec (.cpromVrChr 0x1004) (on (slot (.cprom 3) 2 0 [] [(0x1004, 0x12)]))) = some (.data 0x12) := by decide

/-- S16. -/
theorem test_cpromVwChr :
    (cartAfter (exec (.cpromVwChr 0x1000 0x77) (on (slot (.cprom 2) 2 0 [] [])))).map (fun c => c.chr.cells) = some [(0, 0x77)] := by
  decide

/-- S20, S22. -/
theorem test_m15WReg :
    mapperAfter (exec (.m15WReg 0x8002 0x88) (on (slot (.m15 0 0) 32 0 [] []))) = some (.m15 0x88 2) ∧
    mirroring (exec (.m15WReg 0x8000 0x05) (on (slot (.m15 0 0) 32 0 [] []))) = some (.vertical, 0, [⟨.vertical, 0⟩]) := by decide

/-- S19. -/
theorem test_m15RPrg_mode1 : out (exec (.m15RPrg 0xC000) (on (slot (.m15 0x88 1) 32 0 [(0x3C000, 0x1E)] []))) = some (.data 0x1E) := by decide

/-- S20. -/
theorem test_m15RPrg_mode2 : out (exec (.m15RPrg 0xE123) (on (slot (.m15 0x88 2) 32 0 [(0x22123, 0x11)] []))) = some (.data 0x11) := by decide

/-- S23. -/
theorem test_m15VwChr_mode0 : out (exec (.m15VwChr 0 1) (on (slot (.m15 0 0) 32 0 [] []))) = some (.error (.illegalWrite 0 1)) := by decide

/-- S24. -/
theorem test_m15VwChr_mode1 :
    (cartAfter (exec (.m15VwChr 0 1) (on (slot (.m15 0 1) 32 0 [] [])))).map (fun c => c.chr.cells) = some [(0, 1)] := by decide

/-- S27. -/
theorem test_gxRPrg : out (exec (.gxRPrg 0x8000) (on (slot (.gxrom 0x21) 8 4 [(0x10000, 8)] []))) = some (.data 8) := by decide

/-- S26. -/
theorem test_gxWReg : mapperAfter (exec (.gxWReg 0x8000 0x13) (on (slot (.gxrom 0) 8 4 [] []))) = some (.gxrom 0x13) := by decide

/-- S26. -/
theorem test_gxVrChr : out (exec (.gxVrChr 0) (on (slot (.gxrom 0x13) 8 4 [] [(0x6000, 6)]))) = some (.data 6) := by decide

/-- S31. -/
theorem test_gxVwChr :
    (cartAfter (exec (.gxVwChr 0x1FFF 0x5A) (on (slot (.gxrom 0x13) 8 0 [] [])))).map (fun c => c.chr.cells) = some [(0x1FFF, 0x5A)] := by
  decide

/-- S28. -/
theorem test_c71RPrg :
    out (exec (.c71RPrg 0x8000) (on (slot (.camerica71 4) 16 0 [(0x10000, 8), (0x3FFFC, 0x1F)] []))) = some (.data 8) ∧
    out (exec (.c71RPrg 0xFFFC) (on (slot (.camerica71 4) 16 0 [(0x10000, 8), (0x3FFFC, 0x1F)] []))) = some (.data 0x1F) := by decide

/-- S29. -/
theorem test_c71WMirror :
    mirroring (exec (.c71WMirror 0x9000 0x10) (on (slot (.camerica71 4) 16 0 [] []))) = some (.singleScreen, 1, [⟨.singleScreen, 1⟩]) ∧
    mapperAfter (exec (.c71WMirror 0x9000 0x10) (on (slot (.camerica71 4) 16 0 [] []))) = some (.camerica71 4) := by decide

/-- S30. -/
theorem test_c71WRom :
    out (exec (.c71WRom 0xA000 0) (on (slot (.camerica71 4) 16 0 [] []))) = some (.error (.illegalWrite 0xA000 0)) := by decide

/-- S28. -/
theorem test_c71WBank : mapperAfter (exec (.c71WBank 0xC000 4) (on (slot (.camerica71 0) 16 0 [] []))) = some (.camerica71 4) := by decide

/-! ## MMC1, vectors of 2.7 -/

/-- M5, with the control bits of 46 R221. -/
theorem test_mmc1WSerial_reset :
    mapperAfter (exec (.mmc1WSerial 0xE000 0xFF) (on (c1 { r1 0 0 0 0 with shiftCount := 1 }))) = some (.mmc1 (r1 0x0C 0 0 0)) := by decide

/-- M7: the fifth write commits `control = 0x0E`. -/
theorem test_mmc1WSerial_commit :
    mapperAfter (exec (.mmc1WSerial 0x8000 0) (on (c1 { r1 0x0C 0 0 0 with shiftValue := 0x0E, shiftCount := 4 }))) =
      some (.mmc1 (r1 0x0E 0 0 0)) ∧
    mirroring (exec (.mmc1WSerial 0x8000 0) (on (c1 { r1 0x0C 0 0 0 with shiftValue := 0x0E, shiftCount := 4 }))) =
      some (.vertical, 0, [⟨.vertical, 0⟩]) := by decide

/-- M11. -/
theorem test_mmc1RPrg_mode2 : out (exec (.mmc1RPrg 0xC000) (on (c1 (r1 8 0 0 5)))) = some (.data 0x0A) := by decide

/-- M12. -/
theorem test_mmc1RPrg_mode3 : out (exec (.mmc1RPrg 0xC000) (on (c1 (r1 0x0C 0 0 5)))) = some (.data 0x1E) := by decide

/-- M14. -/
theorem test_mmc1RPrgram :
    out (exec (.mmc1RPrgram 0x6000) (on { c1 (r1 0 0 0 5) with prgRam := ⟨.const 0, [(0, 0x5A)]⟩ })) = some (.data 0x5A) := by decide

/-- M13. -/
theorem test_mmc1WPrgram :
    out (exec (.mmc1WPrgram 0x6000 1) (on (c1 (r1 0 0 0 0x15)))) = some (.error (.writeProtected 0x6000 1)) := by decide

/-- M16. -/
theorem test_mmc1VrChr_8k : out (exec (.mmc1VrChr 0x1000) (on (c1 (r1 0 3 0 0)))) = some (.data 3) := by decide

/-- M15. -/
theorem test_mmc1VrChr_4k : out (exec (.mmc1VrChr 0x1000) (on (c1 (r1 0x10 3 4 0)))) = some (.data 4) := by decide

/-- M17. -/
theorem test_mmc1VwChr : out (exec (.mmc1VwChr 0 0) (on (c1 (r1 0 0 0 0)))) = some (.error (.illegalWrite 0 0)) := by decide

/-! ## MMC2 and MMC4, vectors of 2.8 -/

/-- N5. -/
theorem test_mmc24WRom :
    out (exec (.mmc24WRom 0x8000 0) (on (c24 (.mmc4 (r24 0 .fd .fd))))) = some (.error (.illegalWrite 0x8000 0)) := by decide

/-- N1, and the variant stays. -/
theorem test_mmc24WPrgsel :
    mapperAfter (exec (.mmc24WPrgsel 0xA000 5) (on (c24 (.mmc4 (r24 0 .fd .fd))))) = some (.mmc4 (r24 5 .fd .fd)) := by decide

/-- N12. -/
theorem test_mmc24WChr0fd :
    mapperAfter (exec (.mmc24WChr0fd 0xB000 0x21) (on (c24 (.mmc2 (r24 0 .fd .fd))))) =
      some (.mmc2 { r24 0 .fd .fd with chr0FD := 0x21 }) := by decide

/-- 2.8, setup. -/
theorem test_mmc24WChr0fe :
    mapperAfter (exec (.mmc24WChr0fe 0xC000 9) (on (c24 (.mmc2 (r24 0 .fd .fd))))) =
      some (.mmc2 { r24 0 .fd .fd with chr0FE := 9 }) := by decide

/-- 2.8, setup. -/
theorem test_mmc24WChr1fd :
    mapperAfter (exec (.mmc24WChr1fd 0xD000 9) (on (c24 (.mmc2 (r24 0 .fd .fd))))) =
      some (.mmc2 { r24 0 .fd .fd with chr1FD := 9 }) := by decide

/-- 2.8, setup. -/
theorem test_mmc24WChr1fe :
    mapperAfter (exec (.mmc24WChr1fe 0xE000 9) (on (c24 (.mmc2 (r24 0 .fd .fd))))) =
      some (.mmc2 { r24 0 .fd .fd with chr1FE := 9 }) := by decide

/-- N13. -/
theorem test_mmc24WMirror :
    mirroring (exec (.mmc24WMirror 0xF000 0) (on (c24 (.mmc2 (r24 0 .fd .fd))))) = some (.vertical, 0, [⟨.vertical, 0⟩]) ∧
    mirroring (exec (.mmc24WMirror 0xF000 1) (on (c24 (.mmc2 (r24 0 .fd .fd))))) = some (.horizontal, 0, []) := by decide

/-- N1. -/
theorem test_mmc2RPrg :
    out (exec (.mmc2RPrg 0x8000) (on (c24 (.mmc2 (r24 5 .fd .fd))))) = some (.data 5) ∧
    out (exec (.mmc2RPrg 0xA000) (on (c24 (.mmc2 (r24 5 .fd .fd))))) = some (.data 0x0D) ∧
    out (exec (.mmc2RPrg 0xE000) (on (c24 (.mmc2 (r24 5 .fd .fd))))) = some (.data 0x0F) := by decide

/-- N2: two 8K banks. -/
theorem test_mmc2RPrg_small :
    out (exec (.mmc2RPrg 0xA000) (on (slot (.mmc2 (r24 5 .fd .fd)) 1 16 [(0x2000, 1)] []))) = some (.data 1) ∧
    out (exec (.mmc2RPrg 0xC000) (on (slot (.mmc2 (r24 5 .fd .fd)) 1 16 [(0x2000, 1)] []))) = some (.data 0) := by decide

/-- N3, N4. -/
theorem test_mmc4RPrg :
    out (exec (.mmc4RPrg 0x8000) (on (c24 (.mmc4 (r24 0x1A .fd .fd))))) = some (.data 4) ∧
    out (exec (.mmc4RPrg 0xC000) (on (c24 (.mmc4 (r24 2 .fd .fd))))) = some (.data 0x0E) := by decide

/-- N6: the old bank, then the latch. -/
theorem test_mmc2VrChr :
    out (exec (.mmc2VrChr 0x0FD8) (on (c24 (.mmc2 (r24 0 .fe .fd))))) = some (.data 2) ∧
    mapperAfter (exec (.mmc2VrChr 0x0FD8) (on (c24 (.mmc2 (r24 0 .fe .fd))))) = some (.mmc2 (r24 0 .fd .fd)) := by decide

/-- N7, N10. -/
theorem test_mmc2VrChr_range :
    mapperAfter (exec (.mmc2VrChr 0x0FD9) (on (c24 (.mmc2 (r24 0 .fe .fe))))) = some (.mmc2 (r24 0 .fe .fe)) ∧
    out (exec (.mmc2VrChr 0x1FDF) (on (c24 (.mmc2 (r24 0 .fe .fe))))) = some (.data 4) ∧
    mapperAfter (exec (.mmc2VrChr 0x1FDF) (on (c24 (.mmc2 (r24 0 .fe .fe))))) = some (.mmc2 (r24 0 .fe .fd)) := by decide

/-- N8. -/
theorem test_mmc4VrChr :
    out (exec (.mmc4VrChr 0x0FD9) (on (c24 (.mmc4 (r24 0 .fe .fd))))) = some (.data 2) ∧
    mapperAfter (exec (.mmc4VrChr 0x0FD9) (on (c24 (.mmc4 (r24 0 .fe .fd))))) = some (.mmc4 (r24 0 .fd .fd)) := by decide

/-- N11. -/
theorem test_mmc24VwChr :
    mapperAfter (exec (.mmc24VwChr 0x0FD8 0) (on (slot (.mmc2 (r24 0 .fe .fd)) 8 0 [] []))) = some (.mmc2 (r24 0 .fe .fd)) ∧
    out (exec (.mmc24VwChr 0x0FD8 0) (on (slot (.mmc2 (r24 0 .fe .fd)) 8 0 [] []))) = some .ok := by decide

/-! ## MMC3, vectors of 2.9 -/

/-- Q6. -/
theorem test_mmc3WBankselect : mapperAfter (exec (.mmc3WBankselect 0x9FFE 6) (on (c3 (r3 0)))) = some (.mmc3 (r3 6)) := by decide

/-- Q6. -/
theorem test_mmc3WBankdata :
    mapperAfter (exec (.mmc3WBankdata 0x9FFF 5) (on (c3 (r3 0xC6)))) =
      some (.mmc3 { r3 0xC6 with regs := #v[8, 11, 20, 21, 22, 23, 5, 4] }) := by decide

/-- Q7, from the other side. -/
theorem test_mmc3WMirror : mirroring (exec (.mmc3WMirror 0xBFFE 0) (on (c3 (r3 0)))) = some (.vertical, 0, [⟨.vertical, 0⟩]) := by decide

/-- Q10. -/
theorem test_mmc3WRamprotect :
    mapperAfter (exec (.mmc3WRamprotect 0xBFFF 0x40) (on (c3 (r3 0)))) = some (.mmc3 { r3 0 with ramEnable := false, ramDeny := true }) := by
  decide

/-- Q19. -/
theorem test_mmc3WIrqlatch :
    mapperAfter (exec (.mmc3WIrqlatch 0xC000 0x10) (on (c3 (r3 0)))) = some (.mmc3 { r3 0 with irqLatch := 0x10 }) := by decide

/-- Q18. -/
theorem test_mmc3WIrqreload :
    mapperAfter (exec (.mmc3WIrqreload 0xC001 0) (on (c3 (r3 0)))) = some (.mmc3 { r3 0 with irqCounter := 0, irqReload := true }) := by
  decide

/-- Q14. -/
theorem test_mmc3WIrqdisable :
    after (exec (.mmc3WIrqdisable 0xFFFE 0) (on (c3 { r3 0 with irqPending := true }))) State.irqLine = some false := by decide

/-- Q13. -/
theorem test_mmc3WIrqenable :
    mapperAfter (exec (.mmc3WIrqenable 0xE001 0) (on (c3 { r3 0 with irqEnabled := false, irqPending := true }))) =
      some (.mmc3 { r3 0 with irqPending := true }) := by decide

/-- Q1. -/
theorem test_mmc3RPrg :
    out (exec (.mmc3RPrg 0x8000) (on (c3 (r3 0)))) = some (.data 3) ∧ out (exec (.mmc3RPrg 0xA000) (on (c3 (r3 0)))) = some (.data 4) ∧
    out (exec (.mmc3RPrg 0xC000) (on (c3 (r3 0)))) = some (.data 0x1E) ∧ out (exec (.mmc3RPrg 0xE000) (on (c3 (r3 0)))) = some (.data 0x1F) := by
  decide

/-- Q2. -/
theorem test_mmc3RPrg_swapped :
    out (exec (.mmc3RPrg 0x8000) (on (c3 (r3 0x46)))) = some (.data 0x1E) ∧ out (exec (.mmc3RPrg 0xC000) (on (c3 (r3 0x46)))) = some (.data 3) := by
  decide

/-- Q4. -/
theorem test_mmc3VrChr :
    out (exec (.mmc3VrChr 0x0400) (on (c3 (r3 0)))) = some (.data 9) ∧ out (exec (.mmc3VrChr 0x0C00) (on (c3 (r3 0)))) = some (.data 11) ∧
    out (exec (.mmc3VrChr 0x1C00) (on (c3 (r3 0)))) = some (.data 23) := by decide

/-- Q5. -/
theorem test_mmc3VrChr_inverted :
    out (exec (.mmc3VrChr 0x0000) (on (c3 (r3 0x80)))) = some (.data 20) ∧ out (exec (.mmc3VrChr 0x1400) (on (c3 (r3 0x80)))) = some (.data 9) := by
  decide

/-- Q22. -/
theorem test_mmc3VwChr : out (exec (.mmc3VwChr 0 0) (on (c3 (r3 0)))) = some (.error (.illegalWrite 0 0)) := by decide

/-- Q10. -/
theorem test_mmc3RPrgram :
    out (exec (.mmc3RPrgram 0x6000) (on { c3 { r3 0 with ramDeny := true } with prgRam := ⟨.const 0, [(0, 7)]⟩ })) = some (.data 7) := by decide

/-- Q10, Q11. -/
theorem test_mmc3WPrgram :
    out (exec (.mmc3WPrgram 0x6000 1) (on (c3 { r3 0 with ramDeny := true }))) = some (.error (.writeProtected 0x6000 1)) ∧
    (cartAfter (exec (.mmc3WPrgram 0x6000 0x5A) (on (c3 (r3 0))))).map (fun c => c.prgRam.cells) = some [(0, 0x5A)] := by decide

/-- Q12: the clock that brings the counter to 0. -/
theorem test_mmc3Vc :
    mapperAfter (exec (.mmc3Vc 2 260 true true) (on (c3 { r3 0 with irqCounter := 1 }))) =
      some (.mmc3 { r3 0 with irqCounter := 0, irqPending := true }) := by decide

/-- Q15, Q16. -/
theorem test_mmc3Vc_clock :
    mapperAfter (exec (.mmc3Vc 10 259 true true) (on (c3 (r3 0)))) = some (.mmc3 (r3 0)) ∧
    mapperAfter (exec (.mmc3Vc 240 260 true true) (on (c3 (r3 0)))) = some (.mmc3 (r3 0)) ∧
    mapperAfter (exec (.mmc3Vc 0xFFFF 260 true true) (on (c3 (r3 0)))) = some (.mmc3 (r3 0)) ∧
    mapperAfter (exec (.mmc3Vc 10 260 false false) (on (c3 (r3 0)))) = some (.mmc3 (r3 0)) ∧
    mapperAfter (exec (.mmc3Vc 261 260 false true) (on (c3 (r3 0)))) = some (.mmc3 { r3 0 with irqCounter := 4 }) := by decide

/-! ## Witnesses: for each statement with hypotheses, a state and operands that meet them -/

/-- The hypothesis `Serves` at a wiped block with the cartridge loaded. -/
theorem on_serves (c : Cartridge) : (on c).Serves c := ⟨rfl, rfl⟩

/-- NROM with one bank of each kind. -/
def plain : Cartridge := slot .nrom 1 0 [] []

theorem witness_DecodeEncode :
    ((Instr.mmc5WChra 7 2).wf .standard = true ∧ ∃ w, some Variant.mmc5 = some w ∧ decodesFor .standard w (.mmc5WChra 7 2) = true) ∧
    ((Instr.genRUnmapped 0x5100).wf .standard = true ∧ ∃ w, some Variant.mmc5 = some w ∧ decodesFor .standard w (.genRUnmapped 0x5100) = true) ∧
    ((Instr.mirror 0xFFFF 65536 65536).wf .standard = true ∧ (Instr.mirror 0xFFFF 65536 65536).variants = []) :=
  ⟨⟨by decide, _, rfl, by decide⟩, ⟨by decide, _, rfl, by decide⟩, by decide, rfl⟩

theorem witness_DecodeSound : decode .standard (some .mmc3) ⟨.cpuWrite, [0xFF, 0xFF, 1]⟩ = .ok (.mmc3WIrqenable 0xFFFF 1) := rfl

theorem witness_MaskIsRange : ∃ r ∈ rowsOf .cpuWrite, r.matchBits = 0x8001 ∧ coversRow r 0x9FFF = true ∧ coversRow r 0x9FFE = false :=
  ⟨⟨[.mmc3], 0x8000, 0x9FFF, some 1, 0x8001, 0xE001, fun a d => .mmc3WBankdata a d⟩, by simp [rowsOf, cpuWriteRows], rfl, rfl, rfl⟩

theorem witness_StepRunsDecoded :
    (∃ s r rest i, s = { on plain with pending := [⟨.name, []⟩] } ∧ s.pending = r :: rest ∧ decode s.params s.variant r = .ok i) ∧
    (∃ s r rest e, s = { bare with pending := [⟨.wipe, [0]⟩] } ∧ s.pending = r :: rest ∧ s.fault = none ∧
      decode s.params s.variant r = .error e) ∧
    bare.pending = [] :=
  ⟨⟨_, _, _, _, rfl, rfl, rfl⟩, ⟨_, _, _, _, rfl, rfl, rfl, rfl⟩, rfl⟩

theorem witness_FaultedRefusesAll :
    ∃ s : State, s.fault = some (.writeProtected 0x6000 1) ∧ s.pending = [⟨.name, []⟩] :=
  ⟨{ bare with fault := some (.writeProtected 0x6000 1), pending := [⟨.name, []⟩] }, rfl, rfl⟩

theorem witness_RefusalsInOrder :
    (bare.fault = none ∧ bare.cart = none ∧ needsCartridge (.mmc5RPrg 0) = true) ∧
    (∃ s : State, s.fault = none ∧ s.cart = none ∧ s.pending = [⟨.vidRead, bytesOf16 0x2000⟩]) ∧
    (∃ s : State, s.Serves plain ∧ 0x1FFF < (0x2000 : Addr).toNat ∧ s.pending = [⟨.vidWrite, bytesOf16 0x2000 ++ [0]⟩]) ∧
    (∃ c, (on c).Serves c ∧ c.batteryPresent = false) ∧
    ((on plain).Serves plain ∧ plain.batteryPresent = true ∧ ([] : List Byte).length ≠ (on plain).params.prgRamSize plain.variant) :=
  ⟨⟨rfl, rfl, rfl⟩, ⟨{ bare with pending := [⟨.vidRead, bytesOf16 0x2000⟩] }, rfl, rfl, rfl⟩,
    ⟨{ on plain with pending := [⟨.vidWrite, bytesOf16 0x2000 ++ [0]⟩] }, ⟨rfl, rfl⟩, by decide, rfl⟩,
    ⟨{ plain with batteryPresent := false }, ⟨rfl, rfl⟩, rfl⟩, ⟨rfl, rfl⟩, rfl, by decide⟩

theorem witness_PowerOn : needsCartridge (.busRCart 0x4020) = true := rfl

/-- Parameters with which the rules have a meaning, the standard ones among them. -/
theorem witness_ResetInv : Params.standard.ok = true ∧ { Params.standard with cartBase := 0x6000, policy := .lenient }.ok = true := by
  decide

/-- The invariant in a state with a cartridge and a pending write, whose step answers a next state. -/
theorem witness_StepKeepsInv :
    ∃ s t : State, s = { on (slot (.uxrom 0) 1 0 [] []) with pending := [⟨.cpuWrite, [0xFF, 0x7F, 9]⟩] } ∧ s.Inv ∧ step s = .next t := by
  refine ⟨_, _, rfl, ⟨by decide, by decide, by decide, ?_, rfl⟩, rfl⟩
  intro c hc
  obtain rfl := Option.some.inj hc
  decide

theorem witness_LocalAccess :
    (0x401F : Addr).toNat < bare.params.cartBase ∧ bare.fault = none ∧ ∃ s : State, s.fault = some (.illegalWrite 0x8000 0) :=
  ⟨by decide, rfl, { bare with fault := some (.illegalWrite 0x8000 0) }, rfl⟩

theorem witness_AliasRoundTrip :
    ∃ s t : State, s = { bare with mirrors := regions } ∧ s.store.wf = true ∧ (0x1923 : Addr).toNat < s.params.cartBase ∧
      (0x0123 : Addr).toNat < s.params.cartBase ∧
      resolve s.mirrors (0x1923 : Addr).toNat = resolve s.mirrors (0x0123 : Addr).toNat ∧
      exec (.busWLocal 0x1923 0x77) s = .next t ∧ t.fault = none ∧ t.params = s.params ∧ t.mirrors = s.mirrors :=
  ⟨_, _, rfl, by decide, by decide, by decide, by decide, rfl, rfl, rfl, rfl⟩

theorem witness_ResolveInRange : 0x401F < Params.standard.cartBase := by decide

theorem witness_MirrorsSpareCartridge :
    (∃ t, exec (.busRCart 0x8000) (on plain) = .next t) ∧ ∃ t, exec (.busWCart 0x6000 1) (on plain) = .next t :=
  ⟨⟨_, rfl⟩, _, rfl⟩

theorem witness_ConfigureMirror : bare.fault = none ∧ (0 : BitVec 17) = 0 ∧ (1 : BitVec 17) ≠ 0 ∧ (65536 : BitVec 17) ≠ 0 := by decide

theorem witness_ResetcfgWipe : bare.fault = none := rfl

theorem witness_CartridgeForwarding :
    (on plain).params.cartBase ≤ (0x4020 : Addr).toNat ∧ (on plain).params.cartBase ≤ (0xFFFF : Addr).toNat ∧
    (∃ s : State, s.fault = some (.illegalWrite 0x8000 0)) ∧ (bare.fault = none ∧ bare.cart = none) ∧ (on plain).Serves plain :=
  ⟨by decide, by decide, ⟨{ bare with fault := some (.illegalWrite 0x8000 0) }, rfl⟩, ⟨rfl, rfl⟩, on_serves _⟩

theorem witness_LoadGood (data : List Byte) (hd : data.length = 16384) :
    bare.fault = none ∧ 16 ≤ (image 1 0 0x51 0 data).length ∧ (image 1 0 0x51 0 data).take 4 = [0x4E, 0x45, 0x53, 0x1A] ∧
    (image 1 0 0x51 0 data).getD 4 0 ≠ 0 ∧ (image 1 0 0x51 0 data).getD 5 0 = 0 ∧
    (16 + if ((image 1 0 0x51 0 data).getD 6 0).getLsbD 2 then 512 else 0) + ((image 1 0 0x51 0 data).getD 4 0).toNat * 16384 +
      ((image 1 0 0x51 0 data).getD 5 0).toNat * 8192 ≤ (image 1 0 0x51 0 data).length ∧
    Params.standard.variantOf (BitVec.ofNat 8 (((image 1 0 0x51 0 data).getD 7 0).toNat / 16 * 16 + ((image 1 0 0x51 0 data).getD 6 0).toNat / 16)) =
      some .mmc5 := by
  have h4 : (image 1 0 0x51 0 data).getD 4 0 = 1 := rfl
  have h5 : (image 1 0 0x51 0 data).getD 5 0 = 0 := rfl
  have h6 : (image 1 0 0x51 0 data).getD 6 0 = 0x51 := rfl
  have h7 : (image 1 0 0x51 0 data).getD 7 0 = 0 := rfl
  have hl : (image 1 0 0x51 0 data).length = 16400 := by simp [image, hd]
  rw [h4, h5, h6, h7, hl]
  exact ⟨rfl, by decide, rfl, by decide, rfl, by decide, by decide⟩

theorem witness_LoadFails :
    bare.fault = none ∧ (List.replicate 15 (0 : Byte)).length < 16 ∧
    (∃ i : List Byte, 16 ≤ i.length ∧ i.take 4 ≠ [0x4E, 0x45, 0x53, 0x1A]) ∧
    (16 ≤ (image 0 0 0 0 []).length ∧ (image 0 0 0 0 []).take 4 = [0x4E, 0x45, 0x53, 0x1A] ∧ (image 0 0 0 0 []).getD 4 0 = 0) ∧
    (16 ≤ (image 1 0 0 0 []).length ∧ (image 1 0 0 0 []).getD 4 0 ≠ 0 ∧ (image 1 0 0 0 []).length < 16 + 16384) ∧
    Params.standard.variantOf (BitVec.ofNat 8 ((0x10 : Byte).toNat / 16 * 16 + (0 : Byte).toNat / 16)) = none :=
  ⟨rfl, by decide, ⟨List.replicate 16 0, by decide⟩, by decide, by decide, by decide⟩

theorem witness_StateAfterLoad (data : List Byte) (hd : data.length = 16384) :
    ∃ t c r, exec (.load (image 1 0 0x51 0 data)) bare = .next t ∧ t.result = .ok ∧ t.cart = some c ∧ c.mapper = .mmc5 r :=
  ⟨_, _, _, (test_load_mmc5 data hd).1, rfl, rfl, rfl⟩

/-- The launch premises, at an MMC5 cartridge of one bank with the top bank in reach, and their use by `SAVE_LOAD`. -/
theorem witness_Launch (data : List Byte) (hd : data.length = 16384) :
    ∃ c, State.Launch { bare with cart := some c, mirrors := regions } (image 1 0 0x51 0 data) regions ∧
      c.variant = .mmc5 ∧ c.prgBanks = 2 ^ 0 ∧ bare.params.cartBase ≤ (0xE000 : Addr).toNat ∧ 0xE000 ≤ (0xE000 : Addr).toNat :=
  ⟨imageCartridge .mmc5 (image 1 0 0x51 0 data) 1,
    ⟨rfl, rfl, _, rfl, image_checked hd, rfl, rfl, rfl, rfl, rfl, rfl, rfl, rfl, rfl, rfl⟩, rfl, rfl, by decide, by decide⟩

/-- The launch premises at a cartridge with battery, which `SAVE_LOAD` keeps. -/
theorem witness_Launch_battery (data bytes : List Byte) (hd : data.length = 16384) (hb : bytes.length = 65536) :
    ∃ c t, State.Launch { bare with cart := some c } (image 1 0 0x53 0 data) [] ∧
      exec (.saveload bytes) { bare with cart := some c } = .next t := by
  have hc : checkImage .standard (image 1 0 0x53 0 data) = .ok .mmc5 := by
    have hl : (image 1 0 0x53 0 data).length = 16400 := by simp [image, hd]
    have h6 : headerByte (image 1 0 0x53 0 data) 6 = 0x53 := rfl
    have h7 : headerByte (image 1 0 0x53 0 data) 7 = 0 := rfl
    have hp : imagePrgBanks (image 1 0 0x53 0 data) = 1 := rfl
    have hr : imageChrBanks (image 1 0 0x53 0 data) = 0 := rfl
    have hs : imageDataStart (image 1 0 0x53 0 data) = 16 := by rw [imageDataStart, h6]; rfl
    have hn : imageNeed (image 1 0 0x53 0 data) = 16400 := by rw [imageNeed, hp, hr, hs]; decide
    have hv : Params.standard.variantOf (imageMapperId (image 1 0 0x53 0 data)) = some .mmc5 := by
      rw [imageMapperId, h7, h6]
      decide
    have ht : (image 1 0 0x53 0 data).take 4 = magicBytes := rfl
    rw [checkImage, hl, hn, hv, hp, ht]
    rfl
  have hw : (imageCartridge .mmc5 (image 1 0 0x53 0 data) 1).batteryPresent = true := by
    have h6 : headerByte (image 1 0 0x53 0 data) 6 = 0x53 := rfl
    rw [imageCartridge, h6]
    rfl
  refine ⟨imageCartridge .mmc5 (image 1 0 0x53 0 data) 1,
    ({ bare with cart := some { imageCartridge .mmc5 (image 1 0 0x53 0 data) 1 with prgRam := ⟨.data bytes, []⟩ } } : State).finish .ok,
    ⟨rfl, rfl, _, rfl, hc, rfl, rfl, rfl, rfl, rfl, rfl, rfl, rfl, rfl, rfl⟩, ?_⟩
  rw [exec, execSaveload]
  refine State.onCart_next.2 ⟨rfl, _, (), rfl, ?_, rfl⟩
  rw [saveLoadSel, hw, if_neg (by decide), if_neg]
  exact fun h => h hb

theorem witness_UnloadAndName :
    (∃ s : State, s.fault = some (.illegalWrite 0x8000 0)) ∧ bare.fault = none ∧ bare.cart = none ∧ (on plain).Serves plain :=
  ⟨⟨{ bare with fault := some (.illegalWrite 0x8000 0) }, rfl⟩, rfl, rfl, on_serves _⟩

theorem witness_SaveHooks (bytes : List Byte) (h : bytes.length = 8192) :
    (bare.fault = none ∧ bare.cart = none) ∧ ((on plain).fault = none ∧ (on plain).cart = some plain ∧ plain.batteryPresent = true) ∧
    bytes.length = (on plain).params.prgRamSize plain.variant ∧ ([] : List Byte).length ≠ (on plain).params.prgRamSize plain.variant ∧
    ∃ c : Cartridge, (on c).cart = some c ∧ c.batteryPresent = false :=
  ⟨⟨rfl, rfl⟩, ⟨rfl, rfl, rfl⟩, h, by decide, { plain with batteryPresent := false }, rfl, rfl⟩

theorem witness_BankOffsetInRange : 1 ≤ 32768 ∧ 1 ≤ 16384 := by decide

theorem witness_ArrayReadWrite : Memory.wf ⟨.const 0, [(3, 1), (0x1FFF, 2)]⟩ = true := by decide

theorem witness_UnmappedRows :
    (on plain).Serves plain ∧ (on plain).params.cartBase ≤ (0x4020 : Addr).toNat ∧
    (findRow plain.variant .cpuWrite 0x4020 = none ∧ findRow plain.variant .cpuWrite 0x5FFF = none) ∧
    (findRow plain.variant .cpuRead 0x4020 = none ∧ findRow plain.variant .cpuRead 0x5FFF = none) :=
  ⟨on_serves _, by decide, ⟨rfl, rfl⟩, rfl, rfl⟩

theorem witness_PrgRam6000 :
    (on plain).Serves plain ∧ plain.variant ∈ [Variant.nrom, .uxrom] ∧
    ∀ a ∈ [(0x6000 : Addr), 0x7FFF], 0x6000 ≤ a.toNat ∧ a.toNat ≤ 0x7FFF := ⟨on_serves _, by decide, by simp⟩

theorem witness_Chr8Fixed :
    (on plain).Serves plain ∧ (0x1FFF : Addr).toNat ≤ 0x1FFF ∧ plain.variant ∈ [Variant.nrom, .uxrom, .axrom, .camerica71] ∧
    plain.chrIsRam = true ∧ (slot .nrom 1 1 [] []).chrIsRam = false := ⟨on_serves _, by decide, by decide, rfl, rfl⟩

theorem witness_Mmc5Modes : (on (c5 r5)).Serves (c5 r5) ∧ (c5 r5).mapper = .mmc5 r5 := ⟨on_serves _, rfl⟩

theorem witness_Mmc5BankRegisters : (on (c5 r5)).Serves (c5 r5) ∧ (c5 r5).mapper = .mmc5 r5 := ⟨on_serves _, rfl⟩

theorem witness_Mmc5ChrRegisters : (on (c5 r5)).Serves (c5 r5) ∧ (c5 r5).mapper = .mmc5 r5 := ⟨on_serves _, rfl⟩

theorem witness_Mmc5Multiplier : (on (c5 r5)).Serves (c5 r5) ∧ (c5 r5).mapper = .mmc5 r5 := ⟨on_serves _, rfl⟩

/-- The ranges of the program windows at their ends, in each mode. -/
theorem witness_Mmc5ProgramReads :
    (∀ m : BitVec 2, (on (c5 { r5 with prgMode := m })).Serves (c5 { r5 with prgMode := m }) ∧
      (c5 { r5 with prgMode := m }).mapper = .mmc5 { r5 with prgMode := m }) ∧
    (∀ a ∈ [(0x8000 : Addr), 0x9FFF], 0x8000 ≤ a.toNat ∧ a.toNat < 0xA000) ∧
    (∀ a ∈ [(0xA000 : Addr), 0xBFFF], 0xA000 ≤ a.toNat ∧ a.toNat < 0xC000) ∧
    (∀ a ∈ [(0xC000 : Addr), 0xDFFF], 0xC000 ≤ a.toNat ∧ a.toNat < 0xE000) ∧ ∀ a ∈ [(0xE000 : Addr), 0xFFFF], 0xE000 ≤ a.toNat :=
  ⟨fun _ => ⟨on_serves _, rfl⟩, by simp, by simp, by simp, by simp⟩

theorem witness_Mmc5ProgramWrites :
    (∀ r : Mmc5, (on (c5 r)).Serves (c5 r) ∧ (c5 r).mapper = .mmc5 r) ∧ 0x8000 ≤ (0x8000 : Addr).toNat ∧
    (prgWindow r5 0x8000).rom = true ∧ (prgWindow r5 0xA000).rom = false ∧ r5.protect1 = 0b10 ∧ r5.protect2 = 0b01 ∧
    (prgWindow { r5 with protect2 := 0 } 0xBFFF).rom = false ∧
    ¬({ r5 with protect2 := 0 }.protect1 = 0b10 ∧ { r5 with protect2 := 0 }.protect2 = 0b01) :=
  ⟨fun _ => ⟨on_serves _, rfl⟩, by decide, rfl, rfl, rfl, rfl, rfl, by decide⟩

theorem witness_Mmc5RamWindow :
    (∀ r : Mmc5, (on (c5 r)).Serves (c5 r) ∧ (c5 r).mapper = .mmc5 r) ∧
    (∀ a ∈ [(0x6000 : Addr), 0x7FFF], 0x6000 ≤ a.toNat ∧ a.toNat ≤ 0x7FFF) ∧ (r5.protect1 = 0b10 ∧ r5.protect2 = 0b01) ∧
    ¬({ r5 with protect1 := 3 }.protect1 = 0b10 ∧ { r5 with protect1 := 3 }.protect2 = 0b01) :=
  ⟨fun _ => ⟨on_serves _, rfl⟩, by simp, ⟨rfl, rfl⟩, by simp⟩

theorem witness_Mmc5ModeZeroWritesFail :
    (on (c5 { r5 with prgMode := 0 })).Serves (c5 { r5 with prgMode := 0 }) ∧
    (c5 { r5 with prgMode := 0 }).mapper = .mmc5 { r5 with prgMode := 0 } ∧ (∀ a ∈ [(0x8000 : Addr), 0xFFFF], 0x8000 ≤ a.toNat) ∧
    (on (c5 { r5 with prgMode := 0 })).params.cartBase ≤ (0x8000 : Addr).toNat :=
  ⟨on_serves _, rfl, by simp, by decide⟩

theorem witness_Mmc5TopBank :
    (on (c5 r5)).Serves (c5 r5) ∧ (c5 r5).mapper = .mmc5 r5 ∧ r5.prgBank[3] = 0xFF ∧ 3 ≤ 6 ∧ (c5 r5).prgBanks = 2 ^ 3 ∧
    0xE000 ≤ (0xE000 : Addr).toNat := ⟨on_serves _, rfl, rfl, by decide, rfl, by decide⟩

theorem witness_Mmc5ChrWindows :
    (∀ r : Mmc5, (on (c5 r)).Serves (c5 r) ∧ (c5 r).mapper = .mmc5 r) ∧
    (∀ a ∈ [(0 : Addr), 0x07FF, 0x0800, 0x0FFF, 0x1000, 0x17FF, 0x1800, 0x1FFF], a.toNat ≤ 0x1FFF) ∧
    (0x1FFF / 1024 = (7 : Fin 8).val ∧ 0x1FFF % 4096 / 1024 = (3 : Fin 4).val) ∧ (c5 r5).chrIsRam = false :=
  ⟨fun _ => ⟨on_serves _, rfl⟩, by simp, by simp, rfl⟩

theorem witness_Mmc5ExRam :
    (∀ r : Mmc5, (on (c5 r)).Serves (c5 r) ∧ (c5 r).mapper = .mmc5 r) ∧
    (∀ a ∈ [(0x5C00 : Addr), 0x5FFF], 0x5C00 ≤ a.toNat ∧ a.toNat ≤ 0x5FFF) ∧ r5.exramMode = 2 :=
  ⟨fun _ => ⟨on_serves _, rfl⟩, by simp, rfl⟩

theorem witness_VideoCycles :
    ((on (c5 r5)).Serves (c5 r5) ∧ (c5 r5).mapper = .mmc5 r5) ∧ (on plain).Serves plain ∧ plain.variant ∈ [Variant.nrom, .mmc1] :=
  ⟨⟨on_serves _, rfl⟩, on_serves _, by decide⟩

theorem witness_FixedProgramWindow :
    (on plain).Serves plain ∧ plain.variant ∈ [Variant.nrom, .cnrom, .cprom] ∧ 1 ≤ plain.prgBanks ∧
    ∀ a ∈ [(0x8000 : Addr), 0xC000, 0xFFFF], 0x8000 ≤ a.toNat := ⟨on_serves _, by decide, by decide, by simp⟩

theorem witness_RomWindowWrites :
    (∀ c : Cartridge, (on c).Serves c) ∧ plain.mapper = .nrom ∧ (slot (.camerica71 4) 1 0 [] []).mapper = .camerica71 4 ∧
    (c24 (.mmc4 (r24 0 .fd .fd))).mapper = .mmc4 (r24 0 .fd .fd) ∧ 0x8000 ≤ (0xFFFF : Addr).toNat ∧
    (∀ a ∈ [(0xA000 : Addr), 0xBFFF], 0xA000 ≤ a.toNat ∧ a.toNat ≤ 0xBFFF) ∧
    ∀ a ∈ [(0x8000 : Addr), 0x9FFF], 0x8000 ≤ a.toNat ∧ a.toNat ≤ 0x9FFF :=
  ⟨on_serves, rfl, rfl, rfl, by simp, by simp, by simp⟩

theorem witness_ChrRomWrites :
    (on (c3 (r3 0))).Serves (c3 (r3 0)) ∧ (0x1FFF : Addr).toNat ≤ 0x1FFF ∧ (c3 (r3 0)).chrIsRam = false :=
  ⟨on_serves _, by decide, rfl⟩

theorem witness_SimpleRegisterWrites :
    ∀ m ∈ [Mapper.uxrom 1, .cnrom 1, .colorDreams 1, .cprom 1, .gxrom 1, .camerica71 1],
      (on (slot m 1 0 [] [])).Serves (slot m 1 0 [] []) ∧ (slot m 1 0 [] []).mapper = m ∧ 0x8000 ≤ (0x8000 : Addr).toNat ∧
      0xC000 ≤ (0xC000 : Addr).toNat ∧ (on (slot m 1 0 [] [])).params.cartBase ≤ (0x8000 : Addr).toNat :=
  fun _ _ => ⟨on_serves _, rfl, by decide, by decide, by show 0x4020 ≤ 0x8000; decide⟩

theorem witness_MirrorWrites :
    (∀ m : Mapper, (on (slot m 1 0 [] [])).Serves (slot m 1 0 [] []) ∧ (slot m 1 0 [] []).mapper = m) ∧
    (∀ a ∈ [(0x8000 : Addr), 0x9FFF], 0x8000 ≤ a.toNat ∧ a.toNat ≤ 0x9FFF) ∧ 0xF000 ≤ (0xF000 : Addr).toNat ∧
    ∀ a ∈ [(0xA000 : Addr), 0xBFFE], 0xA000 ≤ a.toNat ∧ a.toNat ≤ 0xBFFF ∧ a.toNat % 2 = 0 :=
  ⟨fun _ => ⟨on_serves _, rfl⟩, by simp, by simp, by simp⟩

theorem witness_SimpleProgramReads :
    (∀ m : Mapper, (on (slot m 1 0 [] [])).Serves (slot m 1 0 [] []) ∧ (slot m 1 0 [] []).mapper = m) ∧
    (0x8000 ≤ (0xBFFF : Addr).toNat ∧ (0xBFFF : Addr).toNat < 0xC000) ∧ 0xC000 ≤ (0xC000 : Addr).toNat :=
  ⟨fun _ => ⟨on_serves _, rfl⟩, by decide, by decide⟩

theorem witness_SimpleChr :
    (∀ m : Mapper, (on (slot m 1 0 [] [])).Serves (slot m 1 0 [] []) ∧ (slot m 1 0 [] []).mapper = m) ∧
    (0x0FFF : Addr).toNat < 0x1000 ∧ 0x1000 ≤ (0x1000 : Addr).toNat ∧ (0x1FFF : Addr).toNat ≤ 0x1FFF :=
  ⟨fun _ => ⟨on_serves _, rfl⟩, by decide, by decide, by decide⟩

theorem witness_Mmc1Serial :
    (∀ r : Mmc1, (on (c1 r)).Serves (c1 r) ∧ (c1 r).mapper = .mmc1 r) ∧ (0x80 : Byte).getLsbD 7 = true ∧
    (0x7F : Byte).getLsbD 7 = false ∧ (r1 0 0 0 0).shiftCount.val < 4 ∧ { r1 0 0 0 0 with shiftCount := 4 }.shiftCount = 4 ∧
    (0x8000 ≤ (0x9FFF : Addr).toNat ∧ (0x9FFF : Addr).toNat < 0xA000) ∧
    (0xA000 ≤ (0xBFFF : Addr).toNat ∧ (0xBFFF : Addr).toNat < 0xC000) ∧
    (0xC000 ≤ (0xDFFF : Addr).toNat ∧ (0xDFFF : Addr).toNat < 0xE000) ∧ 0xE000 ≤ (0xE000 : Addr).toNat :=
  ⟨fun _ => ⟨on_serves _, rfl⟩, rfl, rfl, by decide, rfl, by decide, by decide, by decide, by decide⟩

theorem witness_Mmc1FiveWrites :
    (on (c1 (r1 0 0 0 0))).Serves (c1 (r1 0 0 0 0)) ∧ (r1 0 0 0 0).shiftValue = 0 ∧ (r1 0 0 0 0).shiftCount = 0 ∧
    (∀ a ∈ [(0xE000 : Addr), 0xE000, 0xE000, 0xE000, 0xA000], 0x8000 ≤ a.toNat) ∧
    (∀ d ∈ [(1 : Byte), 0, 0x7E, 0, 1], d.getLsbD 7 = false) ∧
    ∀ m : BitVec 2, ∃ d₀ d₁ : Byte, d₀.getLsbD 7 = false ∧ d₁.getLsbD 7 = false ∧
      (0#3 ++ BitVec.ofBool (d₁.getLsbD 0) ++ BitVec.ofBool (d₀.getLsbD 0) : BitVec 5).extractLsb' 0 2 = m :=
  ⟨on_serves _, rfl, rfl, by simp, by simp, fun m => by
    refine ⟨m.setWidth 8 &&& 1, (m >>> 1).setWidth 8, ?_⟩
    revert m
    decide⟩

theorem witness_Mmc1Windows :
    (∀ r : Mmc1, (on (c1 r)).Serves (c1 r) ∧ (c1 r).mapper = .mmc1 r) ∧ (r1 4 0 0 0).control.toNat / 4 % 4 < 2 ∧
    (r1 8 0 0 0).control.toNat / 4 % 4 = 2 ∧ (r1 12 0 0 0).control.toNat / 4 % 4 = 3 ∧ (r1 0 0 0 15).prg.getLsbD 4 = false ∧
    (r1 0 0 0 16).prg.getLsbD 4 = true ∧ (r1 16 0 0 0).control.getLsbD 4 = true ∧ (r1 15 0 0 0).control.getLsbD 4 = false ∧
    (∀ a ∈ [(0x6000 : Addr), 0x7FFF], 0x6000 ≤ a.toNat ∧ a.toNat ≤ 0x7FFF) ∧ (0x1FFF : Addr).toNat ≤ 0x1FFF ∧
    0x8000 ≤ (0x8000 : Addr).toNat :=
  ⟨fun _ => ⟨on_serves _, rfl⟩, by decide, rfl, rfl, rfl, rfl, rfl, rfl, by simp, by simp, by simp⟩

theorem witness_Mmc24Registers :
    (∀ r : Mmc24, (on (c24 (.mmc2 r))).Serves (c24 (.mmc2 r)) ∧ (c24 (.mmc2 r)).mapper = .mmc2 r ∧
      (on (c24 (.mmc4 r))).Serves (c24 (.mmc4 r)) ∧ (c24 (.mmc4 r)).mapper = .mmc4 r) ∧
    (∀ a ∈ [(0xA000 : Addr), 0xAFFF], 0xA000 ≤ a.toNat ∧ a.toNat ≤ 0xAFFF) ∧
    (∀ a ∈ [(0xE000 : Addr), 0xEFFF], 0xE000 ≤ a.toNat ∧ a.toNat ≤ 0xEFFF) :=
  ⟨fun _ => ⟨on_serves _, rfl, on_serves _, rfl⟩, by simp, by simp⟩

theorem witness_Mmc24Windows :
    (∀ r : Mmc24, (on (c24 (.mmc2 r))).Serves (c24 (.mmc2 r)) ∧ (c24 (.mmc2 r)).mapper = .mmc2 r ∧ 1 ≤ (c24 (.mmc2 r)).prgBanks ∧
      (on (c24 (.mmc4 r))).Serves (c24 (.mmc4 r)) ∧ (c24 (.mmc4 r)).mapper = .mmc4 r) ∧
    (0x8000 ≤ (0x9FFF : Addr).toNat ∧ (0x9FFF : Addr).toNat < 0xA000) ∧ (0xE000 ≤ (0xFFFF : Addr).toNat) ∧
    (0x1FEF : Addr).toNat ≤ 0x1FFF ∧ (0x0FD8 : Addr).toNat = 0x0FD8 :=
  ⟨fun _ => ⟨on_serves _, rfl, Nat.le_of_ble_eq_true rfl, on_serves _, rfl⟩, by decide, by decide, by decide, by decide⟩

theorem witness_Mmc3Registers :
    (∀ r : Mmc3, (on (c3 r)).Serves (c3 r) ∧ (c3 r).mapper = .mmc3 r) ∧
    (∀ a ∈ [(0x8000 : Addr), 0x9FFE], 0x8000 ≤ a.toNat ∧ a.toNat ≤ 0x9FFF ∧ a.toNat % 2 = 0) ∧
    (∀ a ∈ [(0xA001 : Addr), 0xBFFF], 0xA000 ≤ a.toNat ∧ a.toNat ≤ 0xBFFF ∧ a.toNat % 2 = 1) ∧
    (∀ a ∈ [(0xC001 : Addr), 0xDFFF], 0xC000 ≤ a.toNat ∧ a.toNat ≤ 0xDFFF ∧ a.toNat % 2 = 1) ∧
    ∀ a ∈ [(0xE000 : Addr), 0xFFFE], 0xE000 ≤ a.toNat ∧ a.toNat % 2 = 0 :=
  ⟨fun _ => ⟨on_serves _, rfl⟩, by simp, by simp, by simp, by simp⟩

theorem witness_Mmc3Windows :
    (∀ r : Mmc3, (on (c3 r)).Serves (c3 r) ∧ (c3 r).mapper = .mmc3 r) ∧ (r3 0x80).bankSelect.getLsbD 7 = true ∧
    (r3 0x40).bankSelect.getLsbD 6 = true ∧ (0x0FFF + 0x1000) % 0x2000 = 0x1FFF ∧ (0x1000 + 0x1000) % 0x2000 = 0 ∧
    (∀ a ∈ [(0x6000 : Addr), 0x7FFF], 0x6000 ≤ a.toNat ∧ a.toNat ≤ 0x7FFF) ∧ (r3 0).ramEnable = true ∧ (r3 0).ramDeny = false ∧
    { r3 0 with ramDeny := true }.ramDeny = true ∧ { r3 0 with ramEnable := false }.ramEnable = false :=
  ⟨fun _ => ⟨on_serves _, rfl⟩, rfl, rfl, by simp, by simp, by simp, rfl, rfl, rfl, rfl⟩

theorem witness_Mmc3Cycle :
    (∀ r : Mmc3, (on (c3 r)).Serves (c3 r) ∧ (c3 r).mapper = .mmc3 r) ∧
    (∀ sl ∈ [(0 : BitVec 16), 239, 261], (260 : BitVec 16).toNat = 260 ∧ ((0 ≤ sl.toInt ∧ sl.toInt ≤ 239) ∨ sl.toInt = 261)) ∧
    ¬((0 ≤ (240 : BitVec 16).toInt ∧ (240 : BitVec 16).toInt ≤ 239) ∨ (240 : BitVec 16).toInt = 261) ∧ (r3 0).irqCounter ≠ 0 ∧
    (r3 0).irqReload = false ∧ { r3 0 with irqCounter := 0 }.irqCounter = 0 :=
  ⟨fun _ => ⟨on_serves _, rfl⟩, by simp, by decide, by decide, rfl, rfl⟩

theorem witness_ReadsChangeOnlyLatches :
    readFormat (Instr.mmc2VrChr 0x0FD8).format = true ∧ ∃ t, exec (.mmc2VrChr 0x0FD8) (on (c24 (.mmc2 (r24 0 .fe .fd)))) = .next t :=
  ⟨rfl, _, rfl⟩

theorem witness_ErrorsArePrecise :
    ∃ t, exec (.busWCart 0x8000 0) (strictly plain) = .next t ∧ t.result = .error (.illegalWrite 0x8000 0) := ⟨_, rfl, rfl⟩

theorem witness_FixedForLife :
    ∃ t, (∀ image, Instr.mmc5WPrgmode 0 ≠ .load image) ∧ Instr.mmc5WPrgmode 0 ≠ .unload ∧
      exec (.mmc5WPrgmode 0) (on (c5 r5)) = .next t ∧ (on (c5 r5)).cart = some (c5 r5) :=
  ⟨_, (by intro i h; cases h), (by intro h; cases h), rfl, rfl⟩

/-- The clause about the parameters, at the transactions that the other clause leaves out. -/
theorem witness_FixedForLife_params :
    (∃ t, exec .unload (on (c5 r5)) = .next t) ∧ (∃ t, exec .wipe bare = .next t) ∧ ∃ t, exec (.load []) bare = .next t :=
  ⟨⟨_, rfl⟩, ⟨_, rfl⟩, _, rfl⟩

theorem witness_IrqLineRules :
    (∃ t, exec (.mmc3Vc 2 260 true true) (on (c3 { r3 0 with irqCounter := 1 })) = .next t ∧
      (on (c3 { r3 0 with irqCounter := 1 })).irqLine = false ∧ t.irqLine = true) ∧
    ∃ t, exec (.mmc3WIrqdisable 0xFFFE 0) (on (c3 { r3 0 with irqPending := true })) = .next t ∧
      (on (c3 { r3 0 with irqPending := true })).irqLine = true ∧ t.irqLine = false :=
  ⟨⟨_, rfl, rfl, rfl⟩, _, rfl, rfl, rfl⟩

end Sys2Proof.Tests
end

section
/-! SUPPORT. The row that the decode of 30 R82 selects keeps the format it was looked up by, so a forwarded access runs an
instruction of its own format. -/

namespace Sys2Proof.Machine

/-- Each table row builds instructions of the format it is listed under: the tables are literals, so their rows evaluate. -/
theorem rowsOf_format {f : Format} {r : Row} (hr : r ∈ rowsOf f) (a : Addr) (d : Byte) : (r.build a d).format = f := by
  have hall : ((rowsOf f).all fun r => decide ((r.build a d).format = f)) = true := by
    cases f <;> rfl
  exact of_decide_eq_true (List.all_eq_true.1 hall r hr)

/-- A default row has the format it stands in for. -/
theorem defaultRow_format {f : Format} {a : Addr} {d : Byte} {i : Instr} (h : defaultRow f a d = some i) :
    i.format = f := by
  cases f
  case cpuRead => cases h; rfl
  case cpuWrite => cases h; rfl
  all_goals cases h

/-- The decoder's answer for a mapper transaction has the transaction's format. -/
theorem mapperRow_format {p : Params} {v : Variant} {f : Format} {a : Addr} {d : Byte} {i : Instr}
    (h : mapperRow p v f a d = some i) : i.format = f := by
  obtain ⟨-, ⟨r, hr, -, rfl⟩ | ⟨-, hdef⟩⟩ := mapperRow_cases h
  · exact rowsOf_format hr a d
  · exact defaultRow_format hdef

/-- `forward` answers a next state exactly when no fault is recorded, a cartridge is loaded, and the row selected there
answers it. -/
theorem State.forward_next {s t : State} {f : Format} {a : Addr} {d : Byte} :
    s.forward f a d = .next t ↔
      s.fault = none ∧ ∃ c i, s.cart = some c ∧ mapperRow s.params c.variant f a d = some i ∧ mapperAccess i s = .next t := by
  unfold State.forward
  cases s.fault with
  | some _ => simp
  | none =>
    cases s.cart with
    | none => simp
    | some c => cases hi : mapperRow s.params c.variant f a d <;> simp [hi]

/-- A forwarded CPU-side access answers what an instruction of its format answers. -/
theorem State.forward_exec {s t : State} {f : Format} {a : Addr} {d : Byte} (hf : f = .cpuRead ∨ f = .cpuWrite)
    (h : s.forward f a d = .next t) : ∃ i : Instr, i.format = f ∧ exec i s = .next t := by
  obtain ⟨-, c, i, -, hrow, hacc⟩ := State.forward_next.1 h
  have hfmt : i.format = f := mapperRow_format hrow
  refine ⟨i, hfmt, ?_⟩
  rwa [← mapperAccess_exec s (hfmt ▸ hf)]

end Sys2Proof.Machine
end

section
/-! SUPPORT. What a read transaction can do (20 R59), said once: it answers a byte or the open bus, and a video read of MMC2
and MMC4 also stores its latches. -/

namespace Sys2Proof.Machine

/-- The read answered a byte or the open bus and did nothing else. -/
def State.Reads (s t : State) : Prop := (∃ b, t = s.answer b) ∨ t = s.openBus

/-- The read answered a byte and stored registers that differ at most in the latches. -/
def State.ReadsLatching (s t : State) : Prop :=
  ∃ c m b, s.cart = some c ∧ m.lessLatches = c.mapper.lessLatches ∧ t = (s.setCart (c.setMapper m)).answer b

theorem State.Reads.answer (s : State) (b : Byte) : s.Reads (s.answer b) := .inl ⟨b, rfl⟩

theorem State.Reads.openBus (s : State) : s.Reads s.openBus := .inr rfl

theorem State.Reads.ite {s t u : State} {p : Prop} [Decidable p] (ht : s.Reads t) (hu : s.Reads u) :
    s.Reads (if p then t else u) := by
  split
  · exact ht
  · exact hu

/-- A plain read leaves everything but the result and the count of draws. -/
theorem State.Reads.frame {s t : State} (h : s.Reads t) : t = { s with result := t.result, draws := t.draws } := by
  obtain ⟨b, rfl⟩ | rfl := h <;> rfl

/-- A latching read leaves everything but the result and the cartridge. -/
theorem State.ReadsLatching.frame {s t : State} (h : s.ReadsLatching t) :
    t = { s with cart := t.cart, result := t.result, draws := t.draws } := by
  obtain ⟨c, m, b, -, -, rfl⟩ := h
  rfl

/-- Of the cartridge, a latching read leaves everything but the latches. -/
theorem State.ReadsLatching.cart_lessLatches {s t : State} (h : s.ReadsLatching t) :
    t.cart.map (fun c => { c with mapper := c.mapper.lessLatches }) =
      s.cart.map (fun c => { c with mapper := c.mapper.lessLatches }) := by
  obtain ⟨c, m, b, hc, hm, rfl⟩ := h
  simp [hc, hm, Cartridge.setMapper]

/-- A row whose rule is a plain read is a plain read. -/
theorem State.onRow_reads {α : Type} {s t : State} {addr : Option Refusal} {regs : Mapper → Option α}
    {k : Cartridge → α → State} (h : s.onRow addr regs k = .next t) (hk : ∀ c x, s.Reads (k c x)) : s.Reads t := by
  obtain ⟨-, -, c, x, -, -, rfl⟩ := State.onRow_next.1 h
  exact hk c x

theorem asMmc2_some {m : Mapper} {r : Mmc24} : asMmc2 m = some r ↔ m = .mmc2 r := by
  cases m <;> simp [asMmc2]

theorem asMmc4_some {m : Mapper} {r : Mmc24} : asMmc4 m = some r ↔ m = .mmc4 r := by
  cases m <;> simp [asMmc4]

/-- The latch update of MMC2 (46 R239) changes a latch only. -/
theorem mmc2Latch_lessLatches (r : Mmc24) (a : Nat) :
    (Mapper.mmc2 (mmc2Latch r a)).lessLatches = (Mapper.mmc2 r).lessLatches := by
  unfold mmc2Latch
  split_ifs <;> rfl

/-- The latch update of MMC4 (46 R240) changes a latch only. -/
theorem mmc4Latch_lessLatches (r : Mmc24) (a : Nat) :
    (Mapper.mmc4 (mmc4Latch r a)).lessLatches = (Mapper.mmc4 r).lessLatches := by
  unfold mmc4Latch
  split_ifs <;> rfl

theorem execMmc2VrChr_latching {s t : State} {a : Addr} (h : execMmc2VrChr a s = .next t) : s.ReadsLatching t := by
  obtain ⟨-, -, c, r, hc, hr, rfl⟩ := State.onRow_next.1 h
  exact ⟨c, _, _, hc, by rw [asMmc2_some.1 hr, mmc2Latch_lessLatches], rfl⟩

theorem execMmc4VrChr_latching {s t : State} {a : Addr} (h : execMmc4VrChr a s = .next t) : s.ReadsLatching t := by
  obtain ⟨-, -, c, r, hc, hr, rfl⟩ := State.onRow_next.1 h
  exact ⟨c, _, _, hc, by rw [asMmc4_some.1 hr, mmc4Latch_lessLatches], rfl⟩

/-- Every read of the mapper's CPU side is a plain read. -/
theorem exec_cpuRead_reads {i : Instr} {s t : State} (hf : i.format = .cpuRead) (h : exec i s = .next t) :
    s.Reads t := by
  cases i
  case genRUnmapped => exact State.onRow_reads h fun _ _ => .openBus s
  case mmc5RExram => exact State.onRow_reads h fun _ _ => .ite (.answer s _) (.openBus s)
  case mmc1RPrgram => exact State.onRow_reads h fun _ _ => .ite (.openBus s) (.answer s _)
  case mmc3RPrgram => exact State.onRow_reads h fun _ _ => .ite (.answer s _) (.openBus s)
  case genRPrgram6000 | mmc5RProdlo | mmc5RProdhi | mmc5RPrgram6000 | mmc5RPrg | nromRPrg | uxromRPrg | axromRPrg |
      cdRPrg | m15RPrg | gxRPrg | c71RPrg | mmc1RPrg | mmc2RPrg | mmc4RPrg | mmc3RPrg =>
    exact State.onRow_reads h fun _ _ => .answer s _
  all_goals cases hf

/-- Every bus read, of the local store or forwarded to the mapper, is a plain read. -/
theorem exec_busRead_reads {i : Instr} {s t : State} (hf : i.format = .busRead) (h : exec i s = .next t) :
    s.Reads t := by
  cases i
  case busRLocal =>
    obtain ⟨-, -, rfl⟩ := State.onLocal_next.1 h
    exact .answer s _
  case busRCart =>
    obtain ⟨i, hi, hexec⟩ := State.forward_exec (.inl rfl) h
    exact exec_cpuRead_reads hi hexec
  all_goals cases hf

/-- A video read is a plain read, or one of MMC2 or MMC4 that stores the latches. -/
theorem exec_vidRead_reads {i : Instr} {s t : State} (hf : i.format = .vidRead) (h : exec i s = .next t) :
    s.Reads t ∨ s.ReadsLatching t := by
  cases i
  case mmc2VrChr => exact .inr (execMmc2VrChr_latching h)
  case mmc4VrChr => exact .inr (execMmc4VrChr_latching h)
  case genVrChr8fixed | mmc5VrChr | cnromVrChr | cdVrChr | cpromVrChr | gxVrChr | mmc1VrChr | mmc3VrChr =>
    exact .inl (State.onRow_reads h fun _ _ => .answer s _)
  all_goals cases hf

/-- What a read transaction can do: a plain read, or on the video port one that stores the latches. -/
theorem exec_read_cases {i : Instr} {s t : State} (hf : readFormat i.format = true) (h : exec i s = .next t) :
    s.Reads t ∨ (i.format = .vidRead ∧ s.ReadsLatching t) := by
  cases hfmt : i.format
  case busRead => exact .inl (exec_busRead_reads hfmt h)
  case cpuRead => exact .inl (exec_cpuRead_reads hfmt h)
  case vidRead => exact (exec_vidRead_reads hfmt h).imp_right fun hl => ⟨rfl, hl⟩
  all_goals simp [hfmt, readFormat] at hf

/-- Settles O57: a plain read leaves the cartridge, and a latching read, possible on the video port only, leaves all of it
but the latches. -/
theorem readsChangeOnlyLatches : Obligations.ReadsChangeOnlyLatches := by
  intro i s t hread h
  obtain hr | ⟨hvid, hl⟩ := exec_read_cases hread h
  · have hcart : t.cart = s.cart := by rw [hr.frame]
    exact ⟨by rw [hcart]; exact hr.frame, fun _ => hcart, by rw [hcart]⟩
  · exact ⟨hl.frame, fun hne => absurd hvid hne, hl.cart_lessLatches⟩

end Sys2Proof.Machine
end

section
/-! SUPPORT. The serial port of MMC1 (46 R221, R222), said once: what a shifting write and a fifth write answer, and what
the fifth write's commit stores for each target. -/

namespace Sys2Proof.Machine

/-- The registers with an empty shift register. -/
def Mmc1.emptied (r : Mmc1) : Mmc1 := { r with shiftValue := 0, shiftCount := 0 }

/-- The registers after a write that only shifts. -/
def Mmc1.shifted (r : Mmc1) (d : Byte) : Mmc1 :=
  { r with shiftValue := mmc1Shifted r d, shiftCount := r.shiftCount + 1 }

@[simp] theorem Mmc1.shifted_shiftCount (r : Mmc1) (d : Byte) : (r.shifted d).shiftCount = r.shiftCount + 1 := rfl
@[simp] theorem Mmc1.shifted_shiftValue (r : Mmc1) (d : Byte) : (r.shifted d).shiftValue = mmc1Shifted r d := rfl

theorem Mmc1.emptied_of_empty {r : Mmc1} (hv : r.shiftValue = 0) (hn : r.shiftCount = 0) : r.emptied = r := by
  rw [Mmc1.emptied, ← hv, ← hn]

theorem State.Serves.stored {s : State} {c : Cartridge} (h : s.Serves c) (c' : Cartridge) : (s.stored c').Serves c' :=
  ⟨h.1, rfl⟩

/-- A first transaction that completes leaves the others to run from its state. -/
theorem execAll_cons {i : Instr} {s t : State} (h : exec i s = .next t) (rest : List Instr) :
    execAll (i :: rest) s = execAll rest t := by
  rw [execAll, h]

/-- The shift takes in bit 0 of the data at the place of the count. -/
theorem mmc1Shifted_eq (r : Mmc1) (d : Byte) :
    mmc1Shifted r d = r.shiftValue ||| if d.getLsbD 0 then 1#5 <<< r.shiftCount.val else 0 := by
  have hbit : (d.extractLsb' 0 1).setWidth 5 = if d.getLsbD 0 then 1#5 else 0 := by
    revert d
    decide
  rw [mmc1Shifted, hbit]
  split <;> simp

section
variable {s : State} {c : Cartridge} {r : Mmc1} {a : Addr} {d : Byte} (hs : s.Serves c) (hm : c.mapper = .mmc1 r)
  (ha : 0x8000 ≤ a.toNat) (hd : d.getLsbD 7 = false)
include hs hm ha

/-- On an MMC1 cartridge the serial row is selected at every address from 0x8000 up. -/
theorem exec_mmc1WSerial :
    exec (.mmc1WSerial a d) s = .next
      (if d.getLsbD 7 then s.putRegs c (.mmc1 { r with shiftValue := 0, shiftCount := 0, control := r.control ||| 0x0C })
      else if r.shiftCount.val < 4 then s.putRegs c (.mmc1 (r.shifted d))
      else s.mmc1Commit c r a (mmc1Shifted r d)) :=
  State.onRow_run hs.1 hs.2 (cpuAddr_none.2 ⟨ha, Nat.le_of_lt_succ a.isLt⟩) (congrArg asMmc1 hm)

include hd

/-- One of the first four writes shifts its bit in. -/
theorem exec_mmc1WSerial_shift (hn : r.shiftCount.val < 4) :
    exec (.mmc1WSerial a d) s = .next (s.stored (c.setMapper (.mmc1 (r.shifted d)))) := by
  rw [exec_mmc1WSerial hs hm ha, if_neg (ne_true_of_eq_false hd), if_pos hn]
  rfl

/-- The fifth write commits the value with its bit shifted in. -/
theorem exec_mmc1WSerial_commit (hn : r.shiftCount = 4) :
    exec (.mmc1WSerial a d) s = .next (s.mmc1Commit c r a (mmc1Shifted r d)) := by
  rw [exec_mmc1WSerial hs hm ha, if_neg (ne_true_of_eq_false hd), if_neg (by simp [hn])]

end

/-- The commit's target is the 8K quarter of 0x8000..0xFFFF that holds the address. -/
theorem mmc1Target_toNat (a : Addr) : (a.extractLsb' 13 2).toNat = a.toNat / 8192 % 4 := by
  simp [BitVec.extractLsb'_toNat, Nat.shiftRight_eq_div_pow]

section
variable (s : State) (c : Cartridge) (r : Mmc1) {a : Addr} (v : BitVec 5)

/-- What a commit stores, by the quarter that holds the address. -/
theorem State.mmc1Commit_eq (a : Addr) :
    s.mmc1Commit c r a v =
      if a.toNat / 8192 % 4 = 0 then
        (s.setMirror (c.setMapper (.mmc1 { r.emptied with control := v })) (mmc1Mirror (v.extractLsb' 0 2)).1
          (mmc1Mirror (v.extractLsb' 0 2)).2).finish .ok
      else if a.toNat / 8192 % 4 = 1 then s.stored { c with mapper := .mmc1 { r.emptied with chr0 := v } }
      else if a.toNat / 8192 % 4 = 2 then s.stored { c with mapper := .mmc1 { r.emptied with chr1 := v } }
      else s.stored { c with mapper := .mmc1 { r.emptied with prg := v } } := by
  simp only [State.mmc1Commit, ← mmc1Target_toNat, ← BitVec.toNat_inj]
  rfl

/-- `setMirror` stores the page of `mmc1Mirror` as it is: it is 0 for a mode other than `SINGLE_SCREEN` (46 R222). -/
theorem pageFor_mmc1Mirror (m : BitVec 2) : pageFor (mmc1Mirror m).1 (mmc1Mirror m).2 = (mmc1Mirror m).2 := by
  revert m
  decide

/-- A commit below 0xA000 stores `control` and sets the mirroring of its low two bits. -/
theorem State.mmc1Commit_control (hlo : 0x8000 ≤ a.toNat) (hhi : a.toNat < 0xA000) :
    s.mmc1Commit c r a v =
      { s with
        cart := some ({ c with mapper := .mmc1 { r.emptied with control := v } }.mirrored
          (mmc1Mirror (v.extractLsb' 0 2)).1 (mmc1Mirror (v.extractLsb' 0 2)).2)
        events := s.events ++ c.mirrorEvents (mmc1Mirror (v.extractLsb' 0 2)).1 (mmc1Mirror (v.extractLsb' 0 2)).2
        result := .ok } := by
  rw [State.mmc1Commit_eq, if_pos (by omega), State.setMirror_eq, pageFor_mmc1Mirror]
  rfl

/-- A commit at 0xA000..0xBFFF stores `chr0`. -/
theorem State.mmc1Commit_chr0 (hlo : 0xA000 ≤ a.toNat) (hhi : a.toNat < 0xC000) :
    s.mmc1Commit c r a v = s.stored { c with mapper := .mmc1 { r.emptied with chr0 := v } } := by
  rw [State.mmc1Commit_eq, if_neg (by omega), if_pos (by omega)]

/-- A commit at 0xC000..0xDFFF stores `chr1`. -/
theorem State.mmc1Commit_chr1 (hlo : 0xC000 ≤ a.toNat) (hhi : a.toNat < 0xE000) :
    s.mmc1Commit c r a v = s.stored { c with mapper := .mmc1 { r.emptied with chr1 := v } } := by
  rw [State.mmc1Commit_eq, if_neg (by omega), if_neg (by omega), if_pos (by omega)]

/-- A commit from 0xE000 up stores `prg`. -/
theorem State.mmc1Commit_prg (hlo : 0xE000 ≤ a.toNat) :
    s.mmc1Commit c r a v = s.stored { c with mapper := .mmc1 { r.emptied with prg := v } } := by
  have hhi := a.isLt
  rw [State.mmc1Commit_eq, if_neg (by omega), if_neg (by omega), if_neg (by omega)]

/-- A commit overwrites what an earlier write stored. -/
theorem State.mmc1Commit_stored (m : Mapper) (a : Addr) :
    (s.stored (c.setMapper m)).mmc1Commit (c.setMapper m) r a v = s.mmc1Commit c r a v := by
  rw [State.mmc1Commit_eq, State.mmc1Commit_eq]
  simp only [State.setMirror_eq]
  rfl

/-- A commit empties the shift register, whatever it held. -/
theorem State.mmc1Commit_shifted (d : Byte) (a : Addr) : s.mmc1Commit c (r.shifted d) a v = s.mmc1Commit c r a v := rfl

end

end Sys2Proof.Machine
end

section
/-! SUPPORT. Five writes of the MMC1 serial port from an empty shift register (30 R81): four shifts, then the commit. -/

namespace Sys2Proof.Machine

/-- The five bits, first write in bit 0. -/
def mmc1Assembled (d₀ d₁ d₂ d₃ d₄ : Byte) : BitVec 5 :=
  BitVec.ofBool (d₄.getLsbD 0) ++ BitVec.ofBool (d₃.getLsbD 0) ++ BitVec.ofBool (d₂.getLsbD 0) ++
    BitVec.ofBool (d₁.getLsbD 0) ++ BitVec.ofBool (d₀.getLsbD 0)

/-- Five bits, each shifted to its own place, are their concatenation. -/
theorem or_shifted_bits (b₀ b₁ b₂ b₃ b₄ : Bool) :
    ((((0#5 ||| if b₀ then 1#5 <<< 0 else 0) ||| if b₁ then 1#5 <<< 1 else 0) ||| if b₂ then 1#5 <<< 2 else 0) |||
        if b₃ then 1#5 <<< 3 else 0) ||| (if b₄ then 1#5 <<< 4 else 0) =
      BitVec.ofBool b₄ ++ BitVec.ofBool b₃ ++ BitVec.ofBool b₂ ++ BitVec.ofBool b₁ ++ BitVec.ofBool b₀ := by
  revert b₀ b₁ b₂ b₃ b₄
  decide

/-- From an empty shift register, five shifts assemble the five bits. -/
theorem mmc1Shifted_five {r : Mmc1} (hv : r.shiftValue = 0) (hn : r.shiftCount = 0) (d₀ d₁ d₂ d₃ d₄ : Byte) :
    mmc1Shifted ((((r.shifted d₀).shifted d₁).shifted d₂).shifted d₃) d₄ = mmc1Assembled d₀ d₁ d₂ d₃ d₄ := by
  simp only [mmc1Shifted_eq, Mmc1.shifted_shiftValue, Mmc1.shifted_shiftCount, hv, hn]
  exact or_shifted_bits _ _ _ _ _

/-- A shift after an earlier write replaces what that one stored. -/
theorem execAll_mmc1_shift {s : State} {c : Cartridge} {r : Mmc1} {a : Addr} {d : Byte} (hs : s.Serves c)
    (ha : 0x8000 ≤ a.toNat) (hd : d.getLsbD 7 = false) (hn : r.shiftCount.val < 4) (rest : List Instr) :
    execAll (.mmc1WSerial a d :: rest) (s.stored (c.setMapper (.mmc1 r))) =
      execAll rest (s.stored (c.setMapper (.mmc1 (r.shifted d)))) :=
  execAll_cons (exec_mmc1WSerial_shift (hs.stored _) rfl ha hd hn) rest

/-- Five writes without bit 7 from an empty shift register commit the assembled value at the fifth address; the first four
addresses do not matter. -/
theorem execAll_mmc1_five {s : State} {c : Cartridge} {r : Mmc1} {a₀ a₁ a₂ a₃ a₄ : Addr} {d₀ d₁ d₂ d₃ d₄ : Byte}
    (hs : s.Serves c) (hm : c.mapper = .mmc1 r) (hv : r.shiftValue = 0) (hn : r.shiftCount = 0)
    (ha : ∀ a ∈ [a₀, a₁, a₂, a₃, a₄], 0x8000 ≤ a.toNat) (hd : ∀ d ∈ [d₀, d₁, d₂, d₃, d₄], d.getLsbD 7 = false) :
    execAll [.mmc1WSerial a₀ d₀, .mmc1WSerial a₁ d₁, .mmc1WSerial a₂ d₂, .mmc1WSerial a₃ d₃, .mmc1WSerial a₄ d₄] s =
      .next (s.mmc1Commit c r a₄ (mmc1Assembled d₀ d₁ d₂ d₃ d₄)) := by
  simp only [List.forall_mem_cons] at ha hd
  obtain ⟨ha₀, ha₁, ha₂, ha₃, ha₄, -⟩ := ha
  obtain ⟨hd₀, hd₁, hd₂, hd₃, hd₄, -⟩ := hd
  rw [execAll_cons (exec_mmc1WSerial_shift hs hm ha₀ hd₀ (by simp [hn])),
    execAll_mmc1_shift hs ha₁ hd₁ (by simp [hn]), execAll_mmc1_shift hs ha₂ hd₂ (by simp [hn]),
    execAll_mmc1_shift hs ha₃ hd₃ (by simp [hn]),
    execAll_cons (exec_mmc1WSerial_commit (hs.stored _) rfl ha₄ hd₄ (by simp [hn])), execAll, mmc1Shifted_five hv hn]
  simp only [State.mmc1Commit_stored, State.mmc1Commit_shifted]

/-- Settles O50: the five writes are one commit of the assembled value, and each target's commit is read off. -/
theorem mmc1FiveWrites : Obligations.Mmc1FiveWrites := by
  intro s c r a₀ a₁ a₂ a₃ a₄ d₀ d₁ d₂ d₃ d₄ hs hm hv hn ha hd writes v mirrors
  have hfive : execAll writes s = .next (s.mmc1Commit c r a₄ v) := execAll_mmc1_five hs hm hv hn ha hd
  have hlo : 0x8000 ≤ a₄.toNat := ha a₄ (by simp)
  have hempty : r.emptied = r := Mmc1.emptied_of_empty hv hn
  have hcontrol (hhi : a₄.toNat < 0xA000) (m : BitVec 2) (hlow : v.extractLsb' 0 2 = m) :
      mirrors (mmc1Mirror m).1 (mmc1Mirror m).2 := by
    show execAll writes s = _
    rw [hfive, State.mmc1Commit_control s c r v hlo hhi, hempty, hlow]
  refine ⟨fun hhi => ⟨hcontrol hhi 0, hcontrol hhi 1, hcontrol hhi 2, hcontrol hhi 3⟩, fun h₁ h₂ => ?chr0,
    fun h₁ h₂ => ?chr1, fun h₁ => ?prg⟩
  case chr0 => rw [hfive, State.mmc1Commit_chr0 s c r v h₁ h₂, hempty]
  case chr1 => rw [hfive, State.mmc1Commit_chr1 s c r v h₁ h₂, hempty]
  case prg => rw [hfive, State.mmc1Commit_prg s c r v h₁, hempty]

end Sys2Proof.Machine
end

section
/-! SUPPORT. When a host transaction and one on the cartridge run, and with what they are refused (60 R267): `onHost` and
`onCart` by their cases. -/

namespace Sys2Proof.Machine

section
variable {s : State}

theorem State.onHost_run (hf : s.fault = none) (k : State) : s.onHost k = .next k :=
  State.onHost_next.2 ⟨hf, rfl⟩

theorem State.onHost_faulted {e : Error} (hf : s.fault = some e) (k : State) : s.onHost k = .refused .faulted := by
  rw [State.onHost, hf]

variable {α : Type} {sel : Cartridge → Except Refusal α} {k : Cartridge → α → State}

theorem State.onCart_run {c : Cartridge} {x : α} (hf : s.fault = none) (hc : s.cart = some c) (hsel : sel c = .ok x) :
    s.onCart sel k = .next (k c x) :=
  State.onCart_next.2 ⟨hf, c, x, hc, hsel, rfl⟩

theorem State.onCart_noCartridge (hf : s.fault = none) (hc : s.cart = none) :
    s.onCart sel k = .refused .noCartridge := by
  rw [State.onCart, hf, hc]

theorem State.onCart_refused {c : Cartridge} {r : Refusal} (hf : s.fault = none) (hc : s.cart = some c)
    (hsel : sel c = .error r) : s.onCart sel k = .refused r := by
  simp only [State.onCart, hf, hc, hsel]

end

/-- An error that is not recorded in `fault` (60 R266) only becomes the result. -/
theorem State.raise_unrecorded {s : State} {e : Error} (h : errorRecorded s.params.policy e = false) :
    s.raise e = { s with result := .error e } := by
  rw [State.raise, h]
  rfl

end Sys2Proof.Machine
end

section
/-! SUPPORT. `LOAD` (40 R99 to R108): the parts of the header in the terms of the bytes, what each check of the image
answers, and the bytes of the arrays that a good image loads. -/

namespace Sys2Proof.Machine

/-- `mapperId` by arithmetic on its two bytes (30 R76). -/
theorem imageMapperId_eq (image : List Byte) :
    imageMapperId image =
      BitVec.ofNat 8 ((headerByte image 7).toNat / 16 * 16 + (headerByte image 6).toNat / 16) := by
  have hhi := (headerByte image 7).isLt
  have hlo := (headerByte image 6).isLt
  apply BitVec.eq_of_toNat_eq
  rw [imageMapperId, BitVec.toNat_append, ← Nat.shiftLeft_add_eq_or_of_lt (BitVec.isLt _)]
  simp only [BitVec.extractLsb'_toNat, Nat.shiftLeft_eq, Nat.shiftRight_eq_div_pow, BitVec.toNat_ofNat]
  omega

theorem imagePrgBanks_eq_zero {image : List Byte} : imagePrgBanks image = 0 ↔ headerByte image 4 = 0 :=
  BitVec.toNat_inj (y := 0)

theorem imageChrBanks_eq_zero {image : List Byte} : imageChrBanks image = 0 ↔ headerByte image 5 = 0 :=
  BitVec.toNat_inj (y := 0)

section
variable {p : Params} {image : List Byte}

theorem checkImage_short (h : image.length < Config.headerSize) : checkImage p image = .error (.format .len) :=
  if_pos h

variable (hlen : Config.headerSize ≤ image.length)
include hlen

theorem checkImage_badMagic (hmagic : image.take 4 ≠ magicBytes) : checkImage p image = .error (.format .magic) := by
  rw [checkImage, if_neg (not_lt.2 hlen), if_pos hmagic]

variable (hmagic : image.take 4 = magicBytes)
include hmagic

theorem checkImage_noPrgBanks (hprg : imagePrgBanks image = 0) : checkImage p image = .error (.format .prgBanks) := by
  rw [checkImage, if_neg (not_lt.2 hlen), if_neg (not_not.2 hmagic), if_pos hprg]

variable (hprg : imagePrgBanks image ≠ 0)
include hprg

theorem checkImage_truncated (hneed : image.length < imageNeed image) :
    checkImage p image = .error (.format .len) := by
  rw [checkImage, if_neg (not_lt.2 hlen), if_neg (not_not.2 hmagic), if_neg hprg, if_pos hneed]

variable (hneed : imageNeed image ≤ image.length)
include hneed

theorem checkImage_unsupported (hid : p.variantOf (imageMapperId image) = none) :
    checkImage p image = .error (.unsupportedMapper (imageMapperId image)) := by
  rw [checkImage, if_neg (not_lt.2 hlen), if_neg (not_not.2 hmagic), if_neg hprg, if_neg (not_lt.2 hneed), hid]

/-- The converse of `checkImage_ok`: an image that meets every check loads the variant of its id. -/
theorem checkImage_supported {v : Variant} (hid : p.variantOf (imageMapperId image) = some v) :
    checkImage p image = .ok v := by
  rw [checkImage, if_neg (not_lt.2 hlen), if_neg (not_not.2 hmagic), if_neg hprg, if_neg (not_lt.2 hneed), hid]

end

/-- An image that fails a check changes nothing but the result (40 R107): errors of a load are not recorded. -/
theorem exec_load_error {s : State} {image : List Byte} {e : Error} (hf : s.fault = none)
    (hcheck : checkImage s.params image = .error e) (hrec : errorRecorded s.params.policy e = false) :
    exec (.load image) s = .next { s with result := .error e } := by
  rw [exec, execLoad, State.onHost_run hf, hcheck]
  exact congrArg _ (State.raise_unrecorded hrec)

/-- An image that passes the checks loads its cartridge. -/
theorem exec_load_ok {s : State} {image : List Byte} {v : Variant} (hf : s.fault = none)
    (hcheck : checkImage s.params image = .ok v) :
    exec (.load image) s =
      .next { s with cart := some (imageCartridge v image s.draws), draws := s.draws + 3, result := .ok } := by
  rw [exec, execLoad, State.onHost_run hf, hcheck]
  rfl

/-- Byte `k` of the `n` bytes of an array filled with a section of an image. -/
theorem Memory.read_section (image : List Byte) (start : Nat) {n k : Nat} (hk : k < n) :
    Memory.read ⟨.data ((image.drop start).take n), []⟩ k = image.getD (start + k) 0 := by
  simp [fillByte, List.getD_eq_getElem?_getD, List.getElem?_take_of_lt hk]

/-- 40 R102. -/
theorem imagePrgRom_read (image : List Byte) {k : Nat} (hk : k < imagePrgBanks image * 16384) :
    (imagePrgRom image).read k = image.getD (imageDataStart image + k) 0 :=
  Memory.read_section image _ hk

/-- 40 R103, the character data of the image. -/
theorem imageChr_read_rom {image : List Byte} (hchr : imageChrBanks image ≠ 0) {k : Nat}
    (hk : k < imageChrBanks image * 8192) :
    (imageChr image).read k = image.getD (imageDataStart image + imagePrgBanks image * 16384 + k) 0 := by
  rw [imageChr, if_neg hchr]
  exact Memory.read_section image _ hk

/-- 40 R103, the zeroed character RAM. -/
theorem imageChr_read_ram {image : List Byte} (hchr : imageChrBanks image = 0) (k : Nat) :
    (imageChr image).read k = 0 := by
  rw [imageChr, if_pos hchr]
  rfl

@[simp] theorem imageCartridge_variant (v : Variant) (image : List Byte) (n : Nat) :
    (imageCartridge v image n).variant = v :=
  freshMapper_variant v (n + 2) (n + 1)

theorem imageCartridge_chrIsRam (v : Variant) (image : List Byte) (n : Nat) :
    (imageCartridge v image n).chrIsRam = true ↔ imageChrBanks image = 0 :=
  beq_iff_eq

/-- Settles O20: the image passes the checks, so it loads `imageCartridge`, whose arrays are sections of the image. -/
theorem loadGood : Obligations.LoadGood := by
  intro s image v hf hlen hmagic hprg h6 prg chr p hneed hid
  have hcheck : checkImage s.params image = .ok v :=
    checkImage_supported hlen hmagic (mt imagePrgBanks_eq_zero.1 hprg) hneed ((imageMapperId_eq image).symm ▸ hid)
  refine ⟨imageCartridge v image s.draws, exec_load_ok hf hcheck, imageCartridge_variant .., rfl, rfl,
    fun k hk => imagePrgRom_read image hk, fun hchr => ?rom, fun hchr => ?ram, rfl, rfl, rfl, rfl⟩
  case rom =>
    have hbanks : imageChrBanks image ≠ 0 := mt imageChrBanks_eq_zero.1 hchr
    exact ⟨Bool.eq_false_iff.2 (mt (imageCartridge_chrIsRam ..).1 hbanks), fun k hk => imageChr_read_rom hbanks hk⟩
  case ram =>
    have hbanks : imageChrBanks image = 0 := imageChrBanks_eq_zero.2 hchr
    exact ⟨(imageCartridge_chrIsRam ..).2 hbanks, fun k _ => imageChr_read_ram hbanks k⟩

/-- Settles O21: each clause is the answer of one check, all the checks before it passed. -/
theorem loadFails : Obligations.LoadFails := by
  intro s image hf h6 need id fails
  have hprg : imagePrgBanks image = 0 ↔ image.getD 4 0 = 0 := imagePrgBanks_eq_zero
  have hmapper : imageMapperId image = id := imageMapperId_eq image
  refine ⟨fun hshort => exec_load_error hf (checkImage_short hshort) rfl,
    fun hlen hmagic => exec_load_error hf (checkImage_badMagic hlen hmagic) rfl, fun hlen hmagic => ⟨fun h4 => ?noBanks,
      fun h4 hneed => ?truncated, fun h4 hneed hid => ?unsupported⟩⟩
  case noBanks => exact exec_load_error hf (checkImage_noPrgBanks hlen hmagic (hprg.2 h4)) rfl
  case truncated => exact exec_load_error hf (checkImage_truncated hlen hmagic (mt hprg.1 h4) hneed) rfl
  case unsupported =>
    rw [← hmapper] at hid ⊢
    exact exec_load_error hf (checkImage_unsupported hlen hmagic (mt hprg.1 h4) hneed hid) rfl

end Sys2Proof.Machine
end

section
/-! SUPPORT. `UNLOAD` (40 R111), `NAME` (42 R145) and the persistence hooks (40 R113, R114). -/

namespace Sys2Proof.Machine

section
variable {s : State} (hf : s.fault = none)
include hf

theorem exec_unload : exec .unload s = .next { s with cart := none, result := .ok } :=
  State.onHost_run hf _

theorem exec_name_noCartridge (hc : s.cart = none) : exec .name s = .refused .noCartridge := by
  rw [exec, execName, State.onCart_noCartridge hf hc]

theorem exec_name {c : Cartridge} (hc : s.cart = some c) :
    exec .name s = .next { s with result := .name (variantName c.variant) } := by
  rw [exec, execName]
  exact State.onCart_run (x := ()) hf hc rfl

end

/-- Settles O23: `UNLOAD` runs on the host port and `NAME` on the cartridge; the strings are those of `variantName`. -/
theorem unloadAndName : Obligations.UnloadAndName :=
  ⟨fun _ _ hfault => State.onHost_faulted hfault _, fun _ hf => exec_unload hf,
    fun _ hf hc => exec_name_noCartridge hf hc, fun _ _ ⟨hf, hc⟩ => exec_name hf hc, rfl⟩

@[simp] theorem Memory.length_dump (m : Memory) (n : Nat) : (m.dump n).length = n := by
  simp [Memory.dump]

theorem Memory.getD_dump (m : Memory) {n i : Nat} (hi : i < n) : (m.dump n).getD i 0 = m.read i := by
  simp [Memory.dump, List.getD_eq_getElem?_getD, hi]

section
variable {p : Params} {bytes : List Byte} {c : Cartridge}

theorem saveLoadSel_noBattery (hb : c.batteryPresent = false) : saveLoadSel p bytes c = .error .noBattery :=
  if_pos hb

theorem saveDumpSel_noBattery (hb : c.batteryPresent = false) : saveDumpSel c = .error .noBattery :=
  if_pos hb

theorem saveDumpSel_battery (hb : c.batteryPresent = true) : saveDumpSel c = .ok () :=
  if_neg (ne_false_of_eq_true hb)

theorem saveLoadSel_battery (hb : c.batteryPresent = true) :
    saveLoadSel p bytes c = if bytes.length = c.prgRamLen p then .ok () else .error .badSaveLength := by
  simp [saveLoadSel, hb, ite_not]

end

/-- Settles O24: the refusals of 60 R267 in their order, then the two effects. -/
theorem saveHooks : Obligations.SaveHooks := by
  intro s bytes hf
  refine ⟨fun hc => ⟨State.onCart_noCartridge hf hc, State.onCart_noCartridge hf hc⟩, fun c hc =>
    ⟨fun hb => ⟨State.onCart_refused hf hc (saveLoadSel_noBattery hb),
      State.onCart_refused hf hc (saveDumpSel_noBattery hb)⟩,
    fun hb => ⟨fun hlen => ?badLength, fun hlen => ?saveLoad, ?saveDump⟩⟩⟩
  case badLength => exact State.onCart_refused hf hc ((saveLoadSel_battery hb).trans (if_neg hlen))
  case saveLoad =>
    exact ⟨⟨.data bytes, []⟩, State.onCart_run hf hc ((saveLoadSel_battery hb).trans (if_pos hlen)), fun _ _ => rfl⟩
  case saveDump =>
    exact ⟨c.prgRam.dump (c.prgRamLen s.params), State.onCart_run hf hc (saveDumpSel_battery hb),
      Memory.length_dump _ _, fun i hi => Memory.getD_dump _ hi⟩

end Sys2Proof.Machine
end

section
/-! SUPPORT. With a fault recorded nothing runs (60 R267, 41 R130): each shared operation refuses, so every instruction
and every step does. -/

namespace Sys2Proof.Machine

section
variable {s : State} {e : Error} (hf : s.fault = some e)
include hf

theorem State.onLocal_faulted (a : Addr) (k : State) : s.onLocal a k = .refused .faulted := by
  rw [State.onLocal, hf]

theorem State.onCart_faulted {α : Type} (sel : Cartridge → Except Refusal α) (k : Cartridge → α → State) :
    s.onCart sel k = .refused .faulted := by
  rw [State.onCart, hf]

theorem State.onRow_faulted {α : Type} (addr : Option Refusal) (regs : Mapper → Option α) (k : Cartridge → α → State) :
    s.onRow addr regs k = .refused .faulted :=
  State.onCart_faulted hf _ k

theorem State.forward_faulted (f : Format) (a : Addr) (d : Byte) : s.forward f a d = .refused .faulted := by
  rw [State.forward, hf]

theorem State.refuse_faulted (err : DecodeError) : s.refuse err = .refused .faulted := by
  rw [State.refuse, hf]

/-- Every transaction starts with one of the shared operations. -/
theorem exec_faulted (i : Instr) : exec i s = .refused .faulted := by
  cases i
  case busRLocal | busWLocal => exact State.onLocal_faulted hf _ _
  case busRCart | busWCart => exact State.forward_faulted hf _ _ _
  case mirror | resetcfg | wipe | load | unload => exact State.onHost_faulted hf _
  case saveload | savedump => exact State.onCart_faulted hf _ _
  case name => rw [exec, execName, State.onCart_faulted hf]
  all_goals exact State.onRow_faulted hf _ _ _

/-- A pending request is refused whether or not it decodes. -/
theorem step_faulted {r : Request} {rest : List Request} (hp : s.pending = r :: rest) : step s = .refused .faulted := by
  rw [step, hp]
  cases hd : decode s.params s.variant r with
  | ok i => simpa [hd] using exec_faulted (s := s.taken rest) hf i
  | error err => simpa [hd] using State.refuse_faulted hf err

end

/-- Settles O7: `exec_faulted` for an instruction, `step_faulted` for a pending request. -/
theorem faultedRefusesAll : Obligations.FaultedRefusesAll :=
  fun _ _ hf => ⟨exec_faulted hf, fun _ _ hp => step_faulted hf hp⟩

end Sys2Proof.Machine
end

section
/-! SUPPORT. The bus router on its own: mirror resolution (41 R115 to R118), a local access (R120, R121), and the byte that
a local write leaves for a later read (R125). -/

namespace Sys2Proof.Machine

/-- A region that contains the address sends it to its own first `regionSize` bytes, at or below the address. -/
theorem resolveIn_le (regions : List MirrorRegion) (a : Nat) : resolveIn regions a ≤ a := by
  induction regions with
  | nil => exact le_rfl
  | cons r rest ih =>
    rw [resolveIn]
    split
    case isTrue hr =>
      have hbase : r.sourceBase ≤ a := by
        rw [regionHolds, Bool.and_eq_true, decide_eq_true_eq] at hr
        exact hr.1
      have hmod := Nat.mod_le (a - r.sourceBase) r.regionSize
      omega
    case isFalse => exact ih

theorem resolve_le (mirrors : List MirrorRegion) (a : Nat) : resolve mirrors a ≤ a :=
  resolveIn_le mirrors.reverse a

/-- Settles O14: a resolved address is at most the address, hence below what the address is below. -/
theorem resolveInRange : Obligations.ResolveInRange :=
  fun _ mirrors a => ⟨resolve_le mirrors a, (resolve_le mirrors a).trans_lt⟩

/-- The newest region decides first. -/
theorem resolve_append (mirrors : List MirrorRegion) (r : MirrorRegion) (a : Nat) :
    resolve (mirrors ++ [r]) a =
      if regionHolds r a then r.sourceBase + (a - r.sourceBase) % r.regionSize else resolve mirrors a := by
  rw [resolve, List.reverse_append]
  rfl

/-- Settles O15: no region leaves the address, and `resolve_append` with the containment test written out. -/
theorem newestRegionWins : Obligations.NewestRegionWins :=
  ⟨fun _ => rfl, fun mirrors r a => by simp [resolve_append, regionHolds]⟩

section
variable {s : State} {a : Addr} (hf : s.fault = none) (ha : a.toNat < s.params.cartBase)
include hf ha

theorem State.onLocal_run (k : State) : s.onLocal a k = .next k :=
  State.onLocal_next.2 ⟨hf, ha, rfl⟩

theorem exec_busRLocal :
    exec (.busRLocal a) s = .next { s with result := .data (s.store.read (resolve s.mirrors a.toNat)) } :=
  State.onLocal_run hf ha _

theorem exec_busWLocal (d : Byte) :
    exec (.busWLocal a d) s =
      .next { s with store := s.store.write (resolve s.mirrors a.toNat) d, result := .ok } :=
  State.onLocal_run hf ha _

end

/-- Settles O12: a recorded fault refuses both accesses, and without one both run on `Store` at the resolved address. -/
theorem localAccess : Obligations.LocalAccess :=
  fun _ _ d ha => ⟨fun _ hf => ⟨exec_faulted hf _, exec_faulted hf _⟩,
    fun hf => ⟨exec_busRLocal hf ha, exec_busWLocal hf ha d⟩⟩

theorem lookupCell_insertCell_self (i : Nat) (v : Byte) (l : List Host.Cell) :
    lookupCell i (insertCell i v l) = some v := by
  induction l with
  | nil => simp [insertCell, lookupCell]
  | cons x rest ih =>
    rw [insertCell]
    split_ifs with hlt heq
    · simp [lookupCell]
    · simp [lookupCell]
    · simpa [lookupCell, heq] using ih

/-- An index below every listed one is not listed. -/
theorem lookupCell_none_of_lt {i : Nat} {l : List Host.Cell} (h : ∀ c ∈ l, i < c.1) : lookupCell i l = none := by
  induction l with
  | nil => rfl
  | cons x rest ih =>
    rw [lookupCell, if_neg (h x List.mem_cons_self).ne]
    exact ih fun c hc => h c (List.mem_cons_of_mem _ hc)

/-- With the indices rising, an index is listed once at most, so unlisting it leaves none. -/
theorem lookupCell_eraseCell_self (i : Nat) {l : List Host.Cell} (h : l.Pairwise fun x y => x.1 < y.1) :
    lookupCell i (eraseCell i l) = none := by
  induction l with
  | nil => rfl
  | cons x rest ih =>
    rw [eraseCell]
    split_ifs with heq
    · exact lookupCell_none_of_lt fun c hc => heq ▸ List.rel_of_pairwise_cons h hc
    · rw [lookupCell, if_neg heq]
      exact ih h.of_cons

/-- Where the fill fixes a byte, an unlisted index reads as that byte. -/
theorem fillByte_of_known {f : Fill} {i : Nat} {v : Byte} (h : fillKnown f i = some v) : fillByte f i = v := by
  cases f with
  | const b => exact Option.some.inj h
  | data bytes => exact Option.some.inj h
  | free tag => cases h

/-- A canonical array reads back the byte written. -/
theorem Memory.read_write_same {m : Memory} (i : Nat) (v : Byte) (h : m.wf = true) : (m.write i v).read i = v := by
  rw [Memory.wf, Bool.and_eq_true, cellsRising_iff] at h
  obtain ⟨hrising, -⟩ := h
  rw [Memory.read, Memory.write]
  by_cases hk : fillKnown m.fill i = some v
  · simp [hk, lookupCell_eraseCell_self i hrising, fillByte_of_known hk]
  · simp [hk, lookupCell_insertCell_self]

/-- Settles O13: both accesses are of the one cell, which reads back the byte while it is kept. -/
theorem aliasRoundTrip : Obligations.AliasRoundTrip := by
  intro s t u a₁ a₂ d hwf ha₁ ha₂ halias hw hf hparams hmirrors hkept
  obtain ⟨-, -, rfl⟩ := State.onLocal_next.1 hw
  have hcell : u.store.read (resolve u.mirrors a₂.toNat) = d := by
    rw [hmirrors, ← halias, hkept]
    exact Memory.read_write_same _ d hwf
  rw [exec_busRLocal hf (hparams ▸ ha₂), hcell]

end Sys2Proof.Machine
end

section
/-! SUPPORT. The configuration operations of the bus router, 41 R127 to R129. -/

namespace Sys2Proof.Machine

/-- Settles O17: a region size of 0 is a host error, which is not recorded (60 R266); any other size appends the region. -/
theorem configureMirror : Obligations.ConfigureMirror := by
  intro s base regionSize extent hf
  constructor
  · rintro rfl
    rw [exec, execMirror, State.onHost_run hf, if_pos rfl, State.raise_unrecorded rfl]
    rfl
  · intro hsize
    rw [exec, execMirror, State.onHost_run hf, if_neg hsize]
    rfl

/-- Settles O18: both run on the host port; an array with fill 0 and no cell reads 0x00 everywhere. -/
theorem resetcfgWipe : Obligations.ResetcfgWipe :=
  fun _ hf => ⟨State.onHost_run hf _, ⟨.const 0, []⟩, State.onHost_run hf _, fun i => Memory.read_bare (.const 0) i⟩

end Sys2Proof.Machine
end

section
/-! SUPPORT. What the decode of 30 R82 selects: an instruction of the variant, with its operands in range and the
transaction's own address and data in it. The tables are literals, so a fact about every row is one evaluation. -/

namespace Sys2Proof

/-- The default rows of 30 R82. -/
def Instr.isDefault : Instr → Bool
  | .genRUnmapped _ => true
  | .genWUnmapped _ _ => true
  | _ => false

/-- The address and data that an access error of a CPU write reports (60 R259), for the rows whose rule can raise one. -/
def Instr.errorAccess : Instr → Option (Addr × Byte)
  | .mmc5WPrgram6000 a d => some (a, d)
  | .mmc5WPrg a d => some (a, d)
  | .nromWPrg a d => some (a, d)
  | .c71WRom a d => some (a, d)
  | .mmc1WPrgram a d => some (a, d)
  | .mmc24WRom a d => some (a, d)
  | .mmc3WPrgram a d => some (a, d)
  | _ => none

/-- The rows of the MMC5 registers and multiplier (43 R151 to R171), whose instructions carry no address. -/
def Row.atRegister (r : Row) : Bool := decide (0x5100 ≤ r.lo) && decide (r.hi ≤ 0x5206)

/-- `coversRow`, with no parity test where the row has none. -/
def Row.inRange (r : Row) (a : Addr) : Bool :=
  match r.parity with
  | none => within r.lo r.hi a
  | some p => within r.lo r.hi a && a.toNat % 2 == p

theorem Row.inRange_eq_coversRow (r : Row) (a : Addr) : r.inRange a = coversRow r a := by
  rw [Row.inRange, coversRow]
  cases r.parity with
  | none => exact (Bool.and_true _).symm
  | some p => rfl

end Sys2Proof

namespace Sys2Proof.Machine

section
variable {f : Format} {r : Row} (hr : r ∈ rowsOf f) (a : Addr) (d : Byte)
include hr

theorem rowsOf_variants : (r.build a d).variants = r.variants := by
  have hall : (rowsOf f).map (fun r => (r.build a d).variants) = (rowsOf f).map Row.variants := by
    cases f <;> rfl
  exact List.map_inj_left.1 hall r hr

theorem rowsOf_isDefault : (r.build a d).isDefault = false := by
  have hall : (rowsOf f).map (fun r => (r.build a d).isDefault) = (rowsOf f).map fun _ => false := by
    cases f <;> rfl
  exact List.map_inj_left.1 hall r hr

theorem rowsOf_errorAccess : (r.build a d).errorAccess.getD (a, d) = (a, d) := by
  have hall : (rowsOf f).map (fun r => (r.build a d).errorAccess.getD (a, d)) = (rowsOf f).map fun _ => (a, d) := by
    cases f <;> rfl
  exact List.map_inj_left.1 hall r hr

theorem rowsOf_wf_eq (p : Params) : (r.build a d).wf p = (r.atRegister || r.inRange a) := by
  have hall : (rowsOf f).map (fun r => (r.build a d).wf p) = (rowsOf f).map fun r => r.atRegister || r.inRange a := by
    cases f <;> rfl
  exact List.map_inj_left.1 hall r hr

/-- A row that covers the address builds an instruction whose operands are in range. -/
theorem rowsOf_wf (p : Params) (hcov : coversRow r a = true) : (r.build a d).wf p = true := by
  rw [rowsOf_wf_eq hr a d p, Row.inRange_eq_coversRow, hcov, Bool.or_true]

end

theorem selectsRow_iff {v : Variant} {a : Addr} {r : Row} :
    selectsRow v a r = true ↔ r.variants.contains v = true ∧ coversRow r a = true := by
  rw [selectsRow, Bool.and_eq_true]

/-- The default rows stand for the two CPU-side formats. -/
theorem defaultRow_cases {f : Format} {a : Addr} {d : Byte} {i : Instr} (h : defaultRow f a d = some i) :
    (f = .cpuRead ∧ i = .genRUnmapped a) ∨ (f = .cpuWrite ∧ i = .genWUnmapped a d) := by
  cases f
  case cpuRead => exact .inl ⟨rfl, (Option.some.inj h).symm⟩
  case cpuWrite => exact .inr ⟨rfl, (Option.some.inj h).symm⟩
  all_goals cases h

/-- The selected row is one of the variant's. -/
theorem mapperRow_variants {p : Params} {v : Variant} {f : Format} {a : Addr} {d : Byte} {i : Instr}
    (h : mapperRow p v f a d = some i) : i.variants.contains v = true := by
  obtain ⟨-, ⟨r, hr, hsel, rfl⟩ | ⟨-, hdef⟩⟩ := mapperRow_cases h
  · rw [rowsOf_variants hr]
    exact (selectsRow_iff.1 hsel).1
  · obtain ⟨-, rfl⟩ | ⟨-, rfl⟩ := defaultRow_cases hdef <;> cases v <;> rfl

/-- An access error of the selected row reports the transaction's own address and data. -/
theorem mapperRow_errorAccess {p : Params} {v : Variant} {f : Format} {a : Addr} {d : Byte} {i : Instr}
    {x : Addr × Byte} (h : mapperRow p v f a d = some i) (hx : i.errorAccess = some x) : x = (a, d) := by
  obtain ⟨-, ⟨r, hr, -, rfl⟩ | ⟨-, hdef⟩⟩ := mapperRow_cases h
  · have hget := rowsOf_errorAccess hr a d
    rwa [hx] at hget
  · obtain ⟨-, rfl⟩ | ⟨-, rfl⟩ := defaultRow_cases hdef <;> cases hx

/-- A CPU-side access of the cartridge range always selects a row: a default row where no other covers it. -/
theorem mapperRow_cpu_some {p : Params} (v : Variant) {f : Format} {a : Addr} (d : Byte)
    (hf : f = .cpuRead ∨ f = .cpuWrite) (ha : p.cartBase ≤ a.toNat) : ∃ i, mapperRow p v f a d = some i := by
  have hbelow : belowCart p f a = false := by
    obtain rfl | rfl := hf <;> exact decide_eq_false (Nat.not_lt.2 ha)
  have hdefault : ∃ i, defaultRow f a d = some i := by
    obtain rfl | rfl := hf <;> exact ⟨_, rfl⟩
  rw [mapperRow, hbelow, if_neg Bool.false_ne_true]
  cases findRow v f a with
  | none => exact hdefault
  | some r => exact ⟨r.build a d, rfl⟩

/-! ## A selected row runs -/

section
variable {s : State} {c : Cartridge} (hs : s.Serves c)
include hs

/-- `onRow` runs where its address test holds and its registers are those of the loaded variant. -/
theorem State.onRow_some {α : Type} {addr : Option Refusal} {regs : Mapper → Option α} {k : Cartridge → α → State}
    {vs : List Variant} (hv : vs.contains c.variant = true) (ha : addr = none)
    (hregs : ∀ m : Mapper, vs.contains m.variant = (regs m).isSome) : ∃ t, s.onRow addr regs k = .next t := by
  obtain ⟨x, hx⟩ := Option.isSome_iff_exists.1 ((hregs c.mapper).symm.trans hv)
  exact ⟨_, State.onRow_run hs.1 hs.2 ha hx⟩

/-- A mapper row but a default one has a step wherever its operands are in range and its variant is loaded: the row's
address test is its range, and it reads the registers of exactly its variants. -/
theorem exec_row_runs {i : Instr} (hdef : i.isDefault = false) (hwf : i.wf s.params = true)
    (hv : i.variants.contains c.variant = true) : ∃ t, exec i s = .next t := by
  cases i
  case busRLocal | busWLocal | busRCart | busWCart | mirror | resetcfg | wipe | load | unload | saveload | savedump |
      name => cases hv
  case genRUnmapped | genWUnmapped => cases hdef
  case genVcNop | mmc5WPrgmode | mmc5WChrmode | mmc5WProtect1 | mmc5WProtect2 | mmc5WExrammode | mmc5WNtmap |
      mmc5WFilltile | mmc5WFillattr | mmc5WPrgrambank | mmc5WPrgbank0 | mmc5WPrgbank1 | mmc5WPrgbank2 | mmc5WPrgbank3 |
      mmc5WChrupper | mmc5WMult1 | mmc5WMult2 | mmc5WChra | mmc5WChrb | mmc5RProdlo | mmc5RProdhi | mmc5Vc | mmc3Vc =>
    exact State.onRow_some hs hv rfl fun m => by cases m <;> rfl
  all_goals exact State.onRow_some hs hv (if_pos hwf) fun m => by cases m <;> rfl

/-- A default row has a step at every address of the cartridge range that no other row covers. -/
theorem exec_default_runs {f : Format} {a : Addr} {d : Byte} {i : Instr} (hi : defaultRow f a d = some i)
    (hbelow : belowCart s.params f a = false) (hrow : findRow c.variant f a = none) : ∃ t, exec i s = .next t := by
  have hlast : a.toNat ≤ 0xFFFF := Nat.le_of_lt_succ a.isLt
  have hregs : ofDefault f a c.mapper = some () := if_pos (Option.isNone_iff_eq_none.2 hrow)
  obtain ⟨rfl, rfl⟩ | ⟨rfl, rfl⟩ := defaultRow_cases hi <;>
    exact ⟨_, State.onRow_run hs.1 hs.2
      (cpuAddr_none.2 ⟨Nat.not_lt.1 (of_decide_eq_false hbelow), hlast⟩) hregs⟩

/-- The row that the decode selects for the loaded variant has a step. -/
theorem mapperRow_runs {f : Format} {a : Addr} {d : Byte} {i : Instr}
    (h : mapperRow s.params c.variant f a d = some i) : ∃ t, exec i s = .next t := by
  obtain ⟨hbelow, ⟨r, hr, hsel, rfl⟩ | ⟨hrow, hi⟩⟩ := mapperRow_cases h
  · have hcov := (selectsRow_iff.1 hsel).2
    exact exec_row_runs hs (rowsOf_isDefault hr a d) (rowsOf_wf hr a d _ hcov) (mapperRow_variants h)
  · exact exec_default_runs hs hi hbelow hrow

/-- The bus transaction of the cartridge range is the selected row. -/
theorem State.forward_exec_row {f : Format} {a : Addr} {d : Byte} {i : Instr} (hf : f = .cpuRead ∨ f = .cpuWrite)
    (h : mapperRow s.params c.variant f a d = some i) : s.forward f a d = exec i s := by
  rw [State.forward_run hs.1 hs.2 h, mapperAccess_exec s (mapperRow_format h ▸ hf)]

end

theorem State.forward_noCartridge {s : State} (hf : s.fault = none) (hc : s.cart = none) (f : Format) (a : Addr)
    (d : Byte) : s.forward f a d = .refused .noCartridge := by
  rw [State.forward, hf, hc]

/-! ## What a CPU write answers -/

/-- The write answered `ok`, or an access error that the instruction reports and that changes nothing else (41 R123). -/
def State.Writes (s : State) (i : Instr) (t : State) : Prop :=
  t.result = .ok ∨
    ∃ a d, i.errorAccess = some (a, d) ∧ (t = s.errored (.illegalWrite a d) ∨ t = s.errored (.writeProtected a d))

section
variable {s t u : State} {i : Instr} {a : Addr} {d : Byte}

theorem State.Writes.illegalWrite (hi : i.errorAccess = some (a, d)) : s.Writes i (s.raise (.illegalWrite a d)) :=
  .inr ⟨a, d, hi, .inl (s.raise_illegalWrite a d)⟩

theorem State.Writes.writeProtected (hi : i.errorAccess = some (a, d)) : s.Writes i (s.raise (.writeProtected a d)) :=
  .inr ⟨a, d, hi, .inr (s.raise_writeProtected a d)⟩

theorem State.Writes.ite {p : Prop} [Decidable p] (ht : s.Writes i t) (hu : s.Writes i u) :
    s.Writes i (if p then t else u) := by
  split
  · exact ht
  · exact hu

theorem State.Writes.mmc1Commit (c : Cartridge) (r : Mmc1) (v : BitVec 5) : s.Writes i (s.mmc1Commit c r a v) := by
  rw [State.mmc1Commit_eq]
  exact .ite (.inl rfl) (.ite (.inl rfl) (.ite (.inl rfl) (.inl rfl)))

/-- A row answers what its rule answers. -/
theorem State.onRow_writes {α : Type} {addr : Option Refusal} {regs : Mapper → Option α} {k : Cartridge → α → State}
    (h : s.onRow addr regs k = .next t) (hk : ∀ c x, s.Writes i (k c x)) : s.Writes i t := by
  obtain ⟨-, -, c, x, -, -, rfl⟩ := State.onRow_next.1 h
  exact hk c x

/-- What each write of the mapper's CPU side answers. -/
theorem exec_cpuWrite_writes (hf : i.format = .cpuWrite) (h : exec i s = .next t) : s.Writes i t := by
  cases i
  case nromWPrg | c71WRom | mmc24WRom => exact State.onRow_writes h fun _ _ => .illegalWrite rfl
  case mmc1WPrgram => exact State.onRow_writes h fun _ _ => .ite (.writeProtected rfl) (.inl rfl)
  case mmc3WPrgram | mmc5WPrgram6000 => exact State.onRow_writes h fun _ _ => .ite (.inl rfl) (.writeProtected rfl)
  case mmc5WPrg =>
    exact State.onRow_writes h fun _ _ => .ite (.illegalWrite rfl) (.ite (.inl rfl) (.writeProtected rfl))
  case mmc5WExram => exact State.onRow_writes h fun _ _ => .ite (.inl rfl) (.inl rfl)
  case mmc1WSerial => exact State.onRow_writes h fun _ _ => .ite (.inl rfl) (.ite (.inl rfl) (.mmc1Commit _ _ _))
  case genWUnmapped | genWPrgram6000 | mmc5WPrgmode | mmc5WChrmode | mmc5WProtect1 | mmc5WProtect2 | mmc5WExrammode |
      mmc5WNtmap | mmc5WFilltile | mmc5WFillattr | mmc5WPrgrambank | mmc5WPrgbank0 | mmc5WPrgbank1 | mmc5WPrgbank2 |
      mmc5WPrgbank3 | mmc5WChrupper | mmc5WMult1 | mmc5WMult2 | mmc5WChra | mmc5WChrb | uxromWBank | cnromWBank |
      axromWReg | cdWReg | cpromWReg | m15WReg | gxWReg | c71WMirror | c71WBank | mmc24WPrgsel | mmc24WChr0fd |
      mmc24WChr0fe | mmc24WChr1fd | mmc24WChr1fe | mmc24WMirror | mmc3WBankselect | mmc3WBankdata | mmc3WMirror |
      mmc3WRamprotect | mmc3WIrqlatch | mmc3WIrqreload | mmc3WIrqdisable | mmc3WIrqenable =>
    exact State.onRow_writes h fun _ _ => .inl rfl
  all_goals cases hf

/-- A plain read answers a byte. -/
theorem State.Reads.result (h : s.Reads t) : ∃ b, t.result = .data b := by
  obtain ⟨b, rfl⟩ | rfl := h
  · exact ⟨b, rfl⟩
  · exact ⟨_, rfl⟩

end

/-- Settles O19: the refusals of `forward`, then the row that the decode selects, which has a step and answers as a row of
its format does. -/
theorem cartridgeForwarding : Obligations.CartridgeForwarding := by
  intro s a d ha
  refine ⟨fun e hf => ⟨State.forward_faulted hf _ _ _, State.forward_faulted hf _ _ _⟩, fun hf hc =>
    ⟨State.forward_noCartridge hf hc _ _ _, State.forward_noCartridge hf hc _ _ _⟩, fun c hs => ⟨?read, ?write⟩⟩
  case read =>
    obtain ⟨i, hi⟩ := mapperRow_cpu_some c.variant 0 (.inl rfl) ha
    obtain ⟨t, ht⟩ := mapperRow_runs hs hi
    obtain ⟨b, hb⟩ := (exec_cpuRead_reads (mapperRow_format hi) ht).result
    exact ⟨i, b, t, hi, State.forward_exec_row hs (.inl rfl) hi, ht, hb⟩
  case write =>
    obtain ⟨i, hi⟩ := mapperRow_cpu_some c.variant d (.inr rfl) ha
    obtain ⟨t, ht⟩ := mapperRow_runs hs hi
    refine ⟨i, t, hi, State.forward_exec_row hs (.inr rfl) hi, ht, ?_⟩
    obtain hok | ⟨a', d', herr, ht'⟩ := exec_cpuWrite_writes (mapperRow_format hi) ht
    · exact .inl hok
    · obtain ⟨rfl, rfl⟩ := Prod.mk.inj (mapperRow_errorAccess hi herr)
      exact .inr ht'

end Sys2Proof.Machine
end

section
/-! SUPPORT. A mapper row neither reads nor writes the mirror regions (41 R119). -/

namespace Sys2Proof.Machine

/-- The state with other mirror regions. -/
def State.withMirrors (s : State) (regions : List MirrorRegion) : State := { s with mirrors := regions }

section
variable {s t u t' u' : State} {regions : List MirrorRegion}

theorem ite_withMirrors {p : Prop} [Decidable p] (ht : t' = t.withMirrors regions) (hu : u' = u.withMirrors regions) :
    (if p then t' else u') = (if p then t else u).withMirrors regions := by
  split
  · exact ht
  · exact hu

theorem State.setMirror_withMirrors (c : Cartridge) (mode : MirrorMode) (page : BitVec 1) :
    ((s.withMirrors regions).setMirror c mode page).finish .ok =
      ((s.setMirror c mode page).finish .ok).withMirrors regions := by
  rw [State.setMirror_eq, State.setMirror_eq]
  rfl

theorem State.mmc1Commit_withMirrors (c : Cartridge) (r : Mmc1) (a : Addr) (v : BitVec 5) :
    (s.withMirrors regions).mmc1Commit c r a v = (s.mmc1Commit c r a v).withMirrors regions := by
  rw [State.mmc1Commit_eq, State.mmc1Commit_eq]
  exact ite_withMirrors (State.setMirror_withMirrors ..) (ite_withMirrors rfl (ite_withMirrors rfl rfl))

theorem State.chrWrite_withMirrors (c : Cartridge) (a : Addr) (off : Nat) (d : Byte) :
    (s.withMirrors regions).chrWrite c a off d = (s.chrWrite c a off d).withMirrors regions :=
  ite_withMirrors rfl rfl

/-- A row whose rule ignores the regions ignores them: its refusals do too. -/
theorem State.onRow_withMirrors {α : Type} {addr : Option Refusal} {regs : Mapper → Option α}
    {k k' : Cartridge → α → State} (h : s.onRow addr regs k = .next t)
    (hk : ∀ c x, k' c x = (k c x).withMirrors regions) :
    (s.withMirrors regions).onRow addr regs k' = .next (t.withMirrors regions) := by
  obtain ⟨hf, ha, c, x, hc, hx, rfl⟩ := State.onRow_next.1 h
  rw [← hk]
  exact State.onRow_run hf hc ha hx

/-- A mapper row does the same whatever the regions are. -/
theorem exec_row_withMirrors {i : Instr} (hi : i.variants ≠ []) (h : exec i s = .next t) :
    exec i (s.withMirrors regions) = .next (t.withMirrors regions) := by
  cases i
  case busRLocal | busWLocal | busRCart | busWCart | mirror | resetcfg | wipe | load | unload | saveload | savedump |
      name => exact absurd rfl hi
  case mmc5RExram | mmc5WExram | mmc5WPrgram6000 | mmc1RPrgram | mmc1WPrgram | mmc3RPrgram | mmc3WPrgram =>
    exact State.onRow_withMirrors h fun _ _ => ite_withMirrors rfl rfl
  case mmc5WPrg => exact State.onRow_withMirrors h fun _ _ => ite_withMirrors rfl (ite_withMirrors rfl rfl)
  case mmc1WSerial =>
    exact State.onRow_withMirrors h fun _ _ =>
      ite_withMirrors rfl (ite_withMirrors rfl (State.mmc1Commit_withMirrors ..))
  case axromWReg | m15WReg | c71WMirror | mmc24WMirror | mmc3WMirror =>
    exact State.onRow_withMirrors h fun _ _ => State.setMirror_withMirrors ..
  case genVwChr8fixed | mmc5VwChr | cnromVwChr | cdVwChr | cpromVwChr | gxVwChr | mmc1VwChr | mmc24VwChr | mmc3VwChr =>
    exact State.onRow_withMirrors h fun _ _ => State.chrWrite_withMirrors ..
  case m15VwChr =>
    exact State.onRow_withMirrors h fun _ _ => ite_withMirrors rfl (State.chrWrite_withMirrors ..)
  all_goals exact State.onRow_withMirrors h fun _ _ => rfl

/-- So does a forwarded access: the regions decide nothing in the selection of the row. -/
theorem State.forward_withMirrors {f : Format} {a : Addr} {d : Byte} (hf : f = .cpuRead ∨ f = .cpuWrite)
    (h : s.forward f a d = .next t) :
    (s.withMirrors regions).forward f a d = .next (t.withMirrors regions) := by
  obtain ⟨hfault, c, i, hc, hi, hacc⟩ := State.forward_next.1 h
  have hfmt : i.format = .cpuRead ∨ i.format = .cpuWrite := mapperRow_format hi ▸ hf
  have hvar : i.variants ≠ [] := List.ne_nil_of_mem (List.contains_iff_mem.1 (mapperRow_variants hi))
  refine State.forward_next.2 ⟨hfault, c, i, hc, hi, ?_⟩
  rw [mapperAccess_exec _ hfmt] at hacc ⊢
  exact exec_row_withMirrors hvar hacc

end

/-- Settles O16: both transactions forward. -/
theorem mirrorsSpareCartridge : Obligations.MirrorsSpareCartridge :=
  fun _ _ _ _ _ => ⟨State.forward_withMirrors (.inl rfl), State.forward_withMirrors (.inr rfl)⟩

end Sys2Proof.Machine
end

section
/-! SUPPORT. The bank-offset calculator (42 R137 to R139), and when the rows shared by several variants read the loaded
mapper. -/

namespace Sys2Proof.Machine

/-- A bank number reduced by the count of whole banks leaves room for a whole bank; without one the address wraps by the
length itself. -/
theorem bankOffset_lt (b a lo : Nat) {S len : Nat} (hS : 1 ≤ S) (hlen : 1 ≤ len) : bankOffset b S a lo len < len := by
  rw [bankOffset]
  split
  case isTrue => exact Nat.mod_lt _ hlen
  case isFalse hcount =>
    have hbank : b % (len / S) + 1 ≤ len / S := Nat.mod_lt _ (Nat.pos_of_ne_zero hcount)
    calc b % (len / S) * S + (a - lo) % S
        < b % (len / S) * S + S := Nat.add_lt_add_left (Nat.mod_lt _ hS) _
      _ = (b % (len / S) + 1) * S := (Nat.succ_mul _ _).symm
      _ ≤ len / S * S := Nat.mul_le_mul_right S hbank
      _ ≤ len := Nat.div_mul_le_self len S

/-- Settles O25. -/
theorem bankOffsetInRange : Obligations.BankOffsetInRange :=
  fun b _ a lo _ hS hlen => bankOffset_lt b a lo hS hlen

/-- Bank 0 of an array that holds a whole bank shows the array's own first bytes. -/
theorem bankOffset_zero {S a lo len : Nat} (ha : a - lo < S) (hlen : S ≤ len) : bankOffset 0 S a lo len = a - lo := by
  have hcount : len / S ≠ 0 := (Nat.div_pos hlen (Nat.zero_lt_of_lt ha)).ne'
  rw [bankOffset, if_neg hcount, Nat.zero_mod, Nat.zero_mul, Nat.zero_add, Nat.mod_eq_of_lt ha]

/-- Character memory holds at least one 8K bank (10 R27). -/
theorem Cartridge.chrBankUnit_le_chrLen (c : Cartridge) : 8192 ≤ c.chrLen :=
  Nat.le_mul_of_pos_right _ (Nat.le_max_left 1 _)

/-- The fixed 8K character bank is `Chr` itself (42 R146). -/
theorem Cartridge.chrIndex_fixed (c : Cartridge) {a : Nat} (ha : a ≤ 0x1FFF) : c.chrIndex 0 8192 a 0 = a :=
  bankOffset_zero (Nat.lt_succ_of_le ha) c.chrBankUnit_le_chrLen

theorem ofVariants_some {vs : List Variant} {m : Mapper} (h : m.variant ∈ vs) : ofVariants vs m = some () :=
  if_pos (List.contains_iff_mem.2 h)

theorem ofDefault_some {f : Format} {a : Addr} {m : Mapper} (h : findRow m.variant f a = none) :
    ofDefault f a m = some () :=
  if_pos (Option.isNone_iff_eq_none.2 h)

end Sys2Proof.Machine
end

section
/-! SUPPORT. The rows shared by several variants: the default rows (42 R141, R142), the plain program RAM window (R143,
R144) and the fixed 8K character bank (R146, R148). -/

namespace Sys2Proof.Machine

section
variable {s : State} {c : Cartridge} (hs : s.Serves c) {a : Addr}
include hs

theorem exec_genWUnmapped (d : Byte) (ha : s.params.cartBase ≤ a.toNat) (hrow : findRow c.variant .cpuWrite a = none) :
    exec (.genWUnmapped a d) s = .next { s with result := .ok } :=
  State.onRow_run hs.1 hs.2 (cpuAddr_none.2 ⟨ha, Nat.le_of_lt_succ a.isLt⟩) (ofDefault_some hrow)

theorem exec_genRUnmapped (ha : s.params.cartBase ≤ a.toNat) (hrow : findRow c.variant .cpuRead a = none) :
    exec (.genRUnmapped a) s = .next s.openBus :=
  State.onRow_run hs.1 hs.2 (cpuAddr_none.2 ⟨ha, Nat.le_of_lt_succ a.isLt⟩) (ofDefault_some hrow)

theorem exec_genRPrgram6000 (hv : c.variant ∈ ram6000Variants) (hlo : 0x6000 ≤ a.toNat) (hhi : a.toNat ≤ 0x7FFF) :
    exec (.genRPrgram6000 a) s = .next (s.answered (c.prgRam.read (c.ram6000 s.params 0 a.toNat))) :=
  State.onRow_run hs.1 hs.2 (cpuAddr_none.2 ⟨hlo, hhi⟩) (ofVariants_some hv)

theorem exec_genWPrgram6000 (d : Byte) (hv : c.variant ∈ ram6000Variants) (hlo : 0x6000 ≤ a.toNat)
    (hhi : a.toNat ≤ 0x7FFF) :
    exec (.genWPrgram6000 a d) s =
      .next (s.stored { c with prgRam := c.prgRam.write (c.ram6000 s.params 0 a.toNat) d }) :=
  State.onRow_run hs.1 hs.2 (cpuAddr_none.2 ⟨hlo, hhi⟩) (ofVariants_some hv)

theorem exec_genVrChr8fixed (hv : c.variant ∈ chr8ReadVariants) (ha : a.toNat ≤ 0x1FFF) :
    exec (.genVrChr8fixed a) s = .next (s.answered (c.chr.read a.toNat)) := by
  have hrun : exec (.genVrChr8fixed a) s = .next (s.answered (c.chr.read (c.chrIndex 0 8192 a.toNat 0))) :=
    State.onRow_run hs.1 hs.2 (videoAddr_none.2 ha) (ofVariants_some hv)
  rw [hrun, c.chrIndex_fixed ha]

theorem exec_genVwChr8fixed (d : Byte) (hv : c.variant ∈ chr8WriteVariants) (ha : a.toNat ≤ 0x1FFF) :
    exec (.genVwChr8fixed a d) s = .next (s.chrWrite c a a.toNat d) := by
  have hrun : exec (.genVwChr8fixed a d) s = .next (s.chrWrite c a (c.chrIndex 0 8192 a.toNat 0) d) :=
    State.onRow_run hs.1 hs.2 (videoAddr_none.2 ha) (ofVariants_some hv)
  rw [hrun, c.chrIndex_fixed ha]

end

/-- Settles O27: the byte that the read answers is the draw of `openBus`. -/
theorem unmappedRows : Obligations.UnmappedRows :=
  fun _ _ _ d hs ha => ⟨exec_genWUnmapped hs d ha, fun hrow => ⟨_, exec_genRUnmapped hs ha hrow⟩⟩

/-- Settles O28: the window is one bank, so a RAM of one bank shows its own bytes there. -/
theorem prgRam6000 : Obligations.PrgRam6000 := by
  intro s c a d hs hv hlo hhi index
  refine ⟨exec_genRPrgram6000 hs hv hlo hhi, exec_genWPrgram6000 hs d hv hlo hhi, fun hsize => ?_⟩
  exact bankOffset_zero (by omega) hsize.ge

/-- Settles O29: the fixed bank is `Chr` itself, and the write is `chrWrite` there. -/
theorem chr8Fixed : Obligations.Chr8Fixed := by
  intro s c a d hs ha
  refine ⟨fun hv => exec_genVrChr8fixed hs hv ha, fun hv => ?_⟩
  rw [exec_genVwChr8fixed hs d hv ha, State.chrWrite_eq]

end Sys2Proof.Machine
end

section
/-! SUPPORT. The rows that set nametable mirroring: each stores its registers and ends with `setMirror` (42 R150). -/

namespace Sys2Proof.Machine

theorem pageFor_singleScreen (page : BitVec 1) : pageFor .singleScreen page = page := rfl

theorem pageFor_zero (mode : MirrorMode) : pageFor mode 0 = 0 := ite_self 0

/-- A row whose rule stores the registers `m` and sets a mirroring with the page that its mode has (42 R150). -/
theorem State.onRow_setMirror {α : Type} {s : State} {c : Cartridge} {addr : Option Refusal} {regs : Mapper → Option α}
    {k : Cartridge → α → State} {x : α} (m : Mapper) {mode : MirrorMode} {page : BitVec 1} (hs : s.Serves c)
    (ha : addr = none) (hregs : regs c.mapper = some x) (hpage : pageFor mode page = page)
    (hk : k c x = (s.setMirror (c.setMapper m) mode page).finish .ok) :
    s.onRow addr regs k = .next { s with
      cart := some ({ c with mapper := m }.mirrored mode page)
      events := s.events ++ c.mirrorEvents mode page
      result := .ok } := by
  rw [State.onRow_run hs.1 hs.2 ha hregs, hk, State.setMirror_eq, hpage]
  rfl

theorem asMmc24_of_mmc2_or_mmc4 {m : Mapper} {r : Mmc24} (h : m = .mmc2 r ∨ m = .mmc4 r) : asMmc24 m = some r := by
  obtain rfl | rfl := h <;> rfl

/-- Settles O46: AxROM and 100-in-1 store registers of their own, the others none. -/
theorem mirrorWrites : Obligations.MirrorWrites := by
  intro s c a d hs sets byBit
  have hlast : a.toNat ≤ 0xFFFF := Nat.le_of_lt_succ a.isLt
  refine ⟨fun b hm ha => ?axrom, fun b mode hm ha => ?m15, fun b hm hlo hhi => ?camerica71, fun r hm ha => ?mmc24,
    fun r hm hlo hhi heven => ?mmc3⟩
  case axrom =>
    exact State.onRow_setMirror _ hs (cpuAddr_none.2 ⟨ha, hlast⟩) (congrArg asAxrom hm) (pageFor_singleScreen _) rfl
  case m15 => exact State.onRow_setMirror _ hs (cpuAddr_none.2 ⟨ha, hlast⟩) (congrArg asM15 hm) (pageFor_zero _) rfl
  case camerica71 =>
    exact State.onRow_setMirror _ hs (cpuAddr_none.2 ⟨hlo, hhi⟩) (congrArg asCamerica71 hm) (pageFor_singleScreen _) rfl
  case mmc24 =>
    exact State.onRow_setMirror _ hs (cpuAddr_none.2 ⟨ha, hlast⟩) (asMmc24_of_mmc2_or_mmc4 hm) (pageFor_zero _) rfl
  case mmc3 =>
    exact State.onRow_setMirror _ hs (parityAddr_none.2 ⟨hlo, hhi, heven⟩) (congrArg asMmc3 hm) (pageFor_zero _) rfl

end Sys2Proof.Machine
end

section
/-! SUPPORT. The representative chip's registers and multiplier (43 R151 to R172): every register row is `mmc5Write` or a
read of the product, so each is run once here, and a row's effect is the update that its rule names. -/

namespace Sys2Proof.Machine

section
variable {s : State} {c : Cartridge} {r : Mmc5} (hs : s.Serves c) (hm : c.mapper = .mmc5 r)
include hs hm

/-- A register write of the representative chip stores the updated registers and answers `ok`. -/
theorem State.mmc5Write_run (f : Mmc5 → Mmc5) :
    s.mmc5Write f = .next (s.stored { c with mapper := .mmc5 (f r) }) :=
  State.onRow_run hs.1 hs.2 rfl (congrArg asMmc5 hm)

theorem exec_mmc5RProdlo : exec .mmc5RProdlo s = .next (s.answered (r.product.extractLsb' 0 8)) :=
  State.onRow_run hs.1 hs.2 rfl (congrArg asMmc5 hm)

theorem exec_mmc5RProdhi : exec .mmc5RProdhi s = .next (s.answered (r.product.extractLsb' 8 8)) :=
  State.onRow_run hs.1 hs.2 rfl (congrArg asMmc5 hm)

end

/-- Settles O30: each row is `mmc5Write` of its one register. -/
theorem mmc5Modes : Obligations.Mmc5Modes := by
  intro s c r d hs hm
  have hrun := State.mmc5Write_run hs hm
  exact ⟨hrun _, hrun _, hrun _, hrun _, hrun _⟩

/-- Settles O31: each row is `mmc5Write` of its one register. -/
theorem mmc5BankRegisters : Obligations.Mmc5BankRegisters := by
  intro s c r d hs hm
  have hrun := State.mmc5Write_run hs hm
  exact ⟨hrun _, hrun _, hrun _, hrun _, hrun _, hrun _, hrun _, hrun _⟩

/-- An index within the array names its own entry: `poke` replaces that one and keeps the others. -/
theorem getElem_poke {α : Type} {n : Nat} (v : Vector α (n + 1)) {i : Nat} (x : α) (j : Fin (n + 1)) (hi : i < n + 1) :
    (poke v i x)[j] = if j.val = i then x else v[j] := by
  simp only [poke, Nat.mod_eq_of_lt hi, Fin.getElem_fin, Vector.getElem_set, eq_comm]

/-- Settles O32: the bank rows poke their set's register, so reading back is `getElem_poke`. -/
theorem mmc5ChrRegisters : Obligations.Mmc5ChrRegisters := by
  intro s c r d hs hm
  have hrun := State.mmc5Write_run hs hm
  refine ⟨fun i j => ?chra, fun i j => ?chrb, hrun _⟩
  case chra => exact ⟨_, hrun _, getElem_poke r.chrA _ j i.isLt⟩
  case chrb => exact ⟨_, hrun _, getElem_poke r.chrB _ j i.isLt⟩

/-- The product of two bytes fits in 16 bits. -/
theorem product16_toNat (x y : Byte) : (product16 x y).toNat = x.toNat * y.toNat := by
  have hfits : x.toNat * y.toNat < 2 ^ 8 * 2 ^ 8 := Nat.mul_lt_mul'' x.isLt y.isLt
  rw [product16, BitVec.toNat_ofNat, Nat.mod_eq_of_lt (by omega)]

theorem lowByte_toNat (p : BitVec 16) : (p.extractLsb' 0 8).toNat = p.toNat % 256 := by
  rw [BitVec.extractLsb'_toNat, Nat.shiftRight_zero]

theorem highByte_toNat (p : BitVec 16) : (p.extractLsb' 8 8).toNat = p.toNat / 256 := by
  have hlt : p.toNat / 256 < 2 ^ 8 := Nat.div_lt_of_lt_mul p.isLt
  rw [BitVec.extractLsb'_toNat, Nat.shiftRight_eq_div_pow]
  exact Nat.mod_eq_of_lt hlt

/-- Settles O33: a factor write stores `product16`, which is exact, and the reads answer its two bytes. -/
theorem mmc5Multiplier : Obligations.Mmc5Multiplier := by
  intro s c r d hs hm
  have hrun := State.mmc5Write_run hs hm
  exact ⟨⟨product16 d r.factor2, product16_toNat _ _, hrun _⟩, ⟨product16 r.factor1 d, product16_toNat _ _, hrun _⟩,
    ⟨_, lowByte_toNat _, exec_mmc5RProdlo hs hm⟩, ⟨_, highByte_toNat _, exec_mmc5RProdhi hs hm⟩⟩

end Sys2Proof.Machine
end

section
/-! SUPPORT. The representative chip's program windows (44 R173 to R180): the window of each mode, and the rows that read
and write through one. -/

namespace Sys2Proof.Machine

/-- An array of `n` whole banks shows bank `b` modulo `n`. -/
theorem bankOffset_banks (b : Nat) {S a lo n : Nat} (ha : a - lo < S) (hn : n ≠ 0) :
    bankOffset b S a lo (n * S) = b % n * S + (a - lo) := by
  rw [bankOffset, Nat.mul_div_cancel _ (Nat.zero_lt_of_lt ha), if_neg hn, Nat.mod_eq_of_lt ha]

/-- The 8K quarter is the one whose range holds the address. -/
theorem quarter_eq {a i : Nat} (hlo : 0x8000 + 8192 * i ≤ a) (hhi : a < 0x8000 + 8192 * (i + 1)) : quarter a = i := by
  rw [quarter]
  omega

/-- The bank number of 44 R173 by arithmetic on the register. -/
theorem windowIndex_eq (w : PrgWindow) (a len : Nat) :
    windowIndex w a len = bankOffset (w.reg.toNat % 128 / (w.size / 8192)) w.size a w.lo len := by
  rw [windowIndex, bankIn8K, BitVec.toNat_setWidth]

section
variable {r : Mmc5} (a : Nat)

theorem prgWindow_mode0 (h : r.prgMode = 0) : prgWindow r a = ⟨r.prgBank[3], 32768, 0x8000, true⟩ := by
  simp [prgWindow, h]

theorem prgWindow_mode1 (h : r.prgMode = 1) :
    prgWindow r a =
      if a < 0xC000 then ⟨r.prgBank[1], 16384, 0x8000, r.prgBank[1].getLsbD 7⟩
      else ⟨r.prgBank[3], 16384, 0xC000, true⟩ := by
  simp [prgWindow, h]

theorem prgWindow_mode2 (h : r.prgMode = 2) :
    prgWindow r a =
      if a < 0xC000 then ⟨r.prgBank[1], 16384, 0x8000, r.prgBank[1].getLsbD 7⟩
      else if a < 0xE000 then ⟨r.prgBank[2], 8192, 0xC000, r.prgBank[2].getLsbD 7⟩
      else ⟨r.prgBank[3], 8192, 0xE000, true⟩ := by
  simp [prgWindow, h]

/-- In mode 3 each 8K quarter but the last has its own register. -/
theorem prgWindow_mode3 (h : r.prgMode = 3) {i : Nat} (hi : quarter a = i) (hlast : i ≠ 3) :
    prgWindow r a = ⟨pick r.prgBank i, 8192, 0x8000 + 8192 * i, (pick r.prgBank i).getLsbD 7⟩ := by
  simp [prgWindow, h, hi, hlast]

/-- In mode 3 the last 8K quarter is always ROM. -/
theorem prgWindow_mode3_last (h : r.prgMode = 3) (hlast : quarter a = 3) :
    prgWindow r a = ⟨r.prgBank[3], 8192, 0xE000, true⟩ := by
  simp [prgWindow, h, hlast]

theorem ramWritable_iff : ramWritable r = true ↔ r.protect1 = 0b10 ∧ r.protect2 = 0b01 := by
  rw [ramWritable, Bool.and_eq_true, beq_iff_eq, beq_iff_eq]

end

/-- The program RAM of the representative chip has the size that the parameters give its variant. -/
theorem Cartridge.prgRamLen_of_mmc5 {c : Cartridge} {r : Mmc5} (hm : c.mapper = .mmc5 r) (p : Params) :
    c.prgRamLen p = p.prgRamSize .mmc5 := by
  rw [Cartridge.prgRamLen, Cartridge.variant, hm]
  rfl

section
variable {s : State} {c : Cartridge} {r : Mmc5} (hs : s.Serves c) (hm : c.mapper = .mmc5 r) {a : Addr}
include hs hm

section
variable (ha : 0x8000 ≤ a.toNat) {w : PrgWindow} (hw : prgWindow r a.toNat = w)
include ha hw

/-- A program read through a known window. -/
theorem exec_mmc5RPrg :
    exec (.mmc5RPrg a) s = .next (s.answered
      (if w.rom then c.prgRom.read (bankOffset (w.reg.toNat % 128 / (w.size / 8192)) w.size a.toNat w.lo c.prgLen)
      else c.prgRam.read
        (bankOffset (w.reg.toNat % 128 / (w.size / 8192)) w.size a.toNat w.lo (s.params.prgRamSize .mmc5)))) := by
  rw [exec, execMmc5RPrg,
    State.onRow_run hs.1 hs.2 (cpuAddr_none.2 ⟨ha, Nat.le_of_lt_succ a.isLt⟩) (congrArg asMmc5 hm)]
  simp only [hw, windowIndex_eq, c.prgRamLen_of_mmc5 hm, State.answer_answered]

/-- A program write through a known window. -/
theorem exec_mmc5WPrg (d : Byte) :
    exec (.mmc5WPrg a d) s = .next
      (if w.rom then s.errored (.illegalWrite a d)
      else if ramWritable r then
        s.stored { c with
          prgRam := c.prgRam.write
            (bankOffset (w.reg.toNat % 128 / (w.size / 8192)) w.size a.toNat w.lo (s.params.prgRamSize .mmc5)) d }
      else s.errored (.writeProtected a d)) := by
  rw [exec, execMmc5WPrg,
    State.onRow_run hs.1 hs.2 (cpuAddr_none.2 ⟨ha, Nat.le_of_lt_succ a.isLt⟩) (congrArg asMmc5 hm)]
  simp only [hw, windowIndex_eq, c.prgRamLen_of_mmc5 hm, State.raise_illegalWrite, State.raise_writeProtected,
    State.writeRam_stored]

end

section
variable (hlo : 0x6000 ≤ a.toNat) (hhi : a.toNat ≤ 0x7FFF)
include hlo hhi

theorem exec_mmc5RPrgram6000 :
    exec (.mmc5RPrgram6000 a) s = .next (s.answered (c.prgRam.read
      (bankOffset r.prgRamBank.toNat 8192 a.toNat 0x6000 (s.params.prgRamSize .mmc5)))) := by
  rw [exec, execMmc5RPrgram6000, State.onRow_run hs.1 hs.2 (cpuAddr_none.2 ⟨hlo, hhi⟩) (congrArg asMmc5 hm),
    Cartridge.ram6000, Cartridge.ramIndex, c.prgRamLen_of_mmc5 hm, State.answer_answered]

theorem exec_mmc5WPrgram6000 (d : Byte) :
    exec (.mmc5WPrgram6000 a d) s = .next
      (if ramWritable r then
        s.stored { c with
          prgRam := c.prgRam.write (bankOffset r.prgRamBank.toNat 8192 a.toNat 0x6000 (s.params.prgRamSize .mmc5)) d }
      else s.errored (.writeProtected a d)) := by
  rw [exec, execMmc5WPrgram6000, State.onRow_run hs.1 hs.2 (cpuAddr_none.2 ⟨hlo, hhi⟩) (congrArg asMmc5 hm),
    Cartridge.ram6000, Cartridge.ramIndex, c.prgRamLen_of_mmc5 hm, State.raise_writeProtected, State.writeRam_stored]

end

end

/-- Settles O34: the window of each mode and address, read by `exec_mmc5RPrg`. -/
theorem mmc5ProgramReads : Obligations.Mmc5ProgramReads := by
  intro s c r a hs hm ha index shows rom either
  have hlast : a.toNat ≤ 0xFFFF := Nat.le_of_lt_succ a.isLt
  have hread {w : PrgWindow} (hw : prgWindow r a.toNat = w) := exec_mmc5RPrg hs hm ha hw
  refine ⟨fun h => ?mode0, fun h => ?mode1, fun h => ?mode2, fun h => ?mode3⟩
  case mode0 => exact hread (prgWindow_mode0 _ h)
  case mode1 =>
    have hw := prgWindow_mode1 a.toNat h
    exact ⟨fun hhi => hread (hw.trans (if_pos hhi)), fun hlo => hread (hw.trans (if_neg (Nat.not_lt.2 hlo)))⟩
  case mode2 =>
    have hw := prgWindow_mode2 a.toNat h
    exact ⟨fun hhi => hread (hw.trans (if_pos hhi)),
      fun hlo hhi => hread (hw.trans ((if_neg (Nat.not_lt.2 hlo)).trans (if_pos hhi))),
      fun hlo => hread (hw.trans ((if_neg (by omega)).trans (if_neg (Nat.not_lt.2 hlo))))⟩
  case mode3 =>
    exact ⟨fun hhi => hread (prgWindow_mode3 _ h (quarter_eq (i := 0) ha hhi) (by decide)),
      fun hlo hhi => hread (prgWindow_mode3 _ h (quarter_eq (i := 1) hlo hhi) (by decide)),
      fun hlo hhi => hread (prgWindow_mode3 _ h (quarter_eq (i := 2) hlo hhi) (by decide)),
      fun hlo => hread (prgWindow_mode3_last _ h (quarter_eq hlo (Nat.lt_succ_of_le hlast)))⟩

/-- Settles O36: the window is one 8K bank, so the address keeps its offset in it. -/
theorem mmc5RamWindow : Obligations.Mmc5RamWindow := by
  intro s c r a d hs hm hlo hhi index
  have hwrite := exec_mmc5WPrgram6000 hs hm hlo hhi d
  refine ⟨fun hsize => ?corner, exec_mmc5RPrgram6000 hs hm hlo hhi, fun h1 h2 => ?unlocked, fun hlock => ?locked⟩
  case corner =>
    have hoffset : a.toNat - 0x6000 < 8192 := by omega
    have hbanks : s.params.prgRamSize .mmc5 = 8 * 8192 := hsize
    exact (congrArg _ hbanks).trans (bankOffset_banks _ hoffset (by decide))
  case unlocked => rw [hwrite, if_pos (ramWritable_iff.2 ⟨h1, h2⟩)]
  case locked => rw [hwrite, if_neg (mt ramWritable_iff.1 hlock)]

theorem coversRow_le_hi {r : Row} {a : Addr} (h : coversRow r a = true) : a.toNat ≤ r.hi := by
  simp only [coversRow, within, Bool.and_eq_true, decide_eq_true_eq] at h
  exact h.1.2

/-- A variant's last row is found where it covers the address and the rows before it lie below. -/
theorem findRow_last {v : Variant} {f : Format} {a : Addr} {rows : List Row} {row : Row}
    (hrows : (rowsOf f).filter (fun r => r.variants.contains v) = rows ++ [row]) (hbelow : ∀ r ∈ rows, r.hi < a.toNat)
    (hcov : coversRow row a = true) : findRow v f a = some row := by
  have hnone : rows.find? (fun r => coversRow r a) = none :=
    List.find?_eq_none.2 fun r hr hc => Nat.not_le.2 (hbelow r hr) (coversRow_le_hi hc)
  rw [findRow_filter, hrows, List.find?_append, hnone, Option.none_or, List.find?_singleton, hcov, if_pos rfl]

/-- The representative chip's last write row is that of its program windows (30 R84). -/
theorem findRow_mmc5_program {a : Addr} (ha : 0x8000 ≤ a.toNat) :
    findRow .mmc5 .cpuWrite a = some ⟨[.mmc5], 0x8000, 0xFFFF, none, 0x8000, 0x8000, fun a d => .mmc5WPrg a d⟩ := by
  have hbelow : ∀ r ∈ ((rowsOf .cpuWrite).filter fun r => r.variants.contains .mmc5).dropLast, r.hi < 0x8000 := by
    decide
  have hcov : within 0x8000 0xFFFF a = true := by
    rw [within, decide_eq_true ha, decide_eq_true (Nat.le_of_lt_succ a.isLt), Bool.and_self]
  exact findRow_last rfl (fun r hr => (hbelow r hr).trans_le ha) ((Bool.and_true _).trans hcov)

theorem mapperRow_mmc5WPrg {p : Params} {a : Addr} (d : Byte) (ha : 0x8000 ≤ a.toNat) (hcart : p.cartBase ≤ a.toNat) :
    mapperRow p .mmc5 .cpuWrite a d = some (.mmc5WPrg a d) := by
  have hbelow : belowCart p .cpuWrite a = false := decide_eq_false (Nat.not_lt.2 hcart)
  rw [mapperRow, hbelow, if_neg Bool.false_ne_true, findRow_mmc5_program ha]

/-- Settles O37: mode 0 has one window, of ROM, and the bus forwards to the program window row. -/
theorem mmc5ModeZeroWritesFail : Obligations.Mmc5ModeZeroWritesFail := by
  intro s c r a d hs hm hmode ha
  have hwrite : exec (.mmc5WPrg a d) s = .next (s.errored (.illegalWrite a d)) :=
    exec_mmc5WPrg hs hm ha (prgWindow_mode0 _ hmode) d
  refine ⟨hwrite, fun hcart => ?_⟩
  have hrow : mapperRow s.params c.variant .cpuWrite a d = some (.mmc5WPrg a d) := by
    rw [Cartridge.variant, hm]
    exact mapperRow_mmc5WPrg d ha hcart
  exact (State.forward_exec_row hs (.inr rfl) hrow).trans hwrite

/-- Settles O35: the ROM bit decides first, then the latch. -/
theorem mmc5ProgramWrites : Obligations.Mmc5ProgramWrites := by
  intro s c r a d hs hm ha w
  have hwrite := exec_mmc5WPrg hs hm ha (w := w) rfl d
  refine ⟨fun hrom => ?rom, fun hram hlock => ?locked, fun hram h1 h2 => ?unlocked⟩
  case rom => rw [hwrite, if_pos hrom]
  case locked => rw [hwrite, hram, if_neg Bool.false_ne_true, if_neg (mt ramWritable_iff.1 hlock)]
  case unlocked => rw [hwrite, hram, if_neg Bool.false_ne_true, if_pos (ramWritable_iff.2 ⟨h1, h2⟩)]

end Sys2Proof.Machine
end

section
/-! SUPPORT. The representative chip's character windows (44 R181 to R184): the register and the window base that
`chrSelect` gives in each set, by the size of the windows. -/

namespace Sys2Proof.Machine

section
variable {s : State} {c : Cartridge} {r : Mmc5} (hs : s.Serves c) (hm : c.mapper = .mmc5 r) {a : Addr}
  (ha : a.toNat ≤ 0x1FFF)
include hs hm ha

theorem exec_mmc5VrChr : exec (.mmc5VrChr a) s = .next (s.answered (c.chr.read (mmc5ChrIndex c r a.toNat))) :=
  State.onRow_run hs.1 hs.2 (videoAddr_none.2 ha) (congrArg asMmc5 hm)

theorem exec_mmc5VwChr (d : Byte) :
    exec (.mmc5VwChr a d) s = .next (s.chrWrite c a (mmc5ChrIndex c r a.toNat) d) :=
  State.onRow_run hs.1 hs.2 (videoAddr_none.2 ha) (congrArg asMmc5 hm)

end

theorem pick_fin {α : Type} {n : Nat} (v : Vector α (n + 1)) (i : Fin (n + 1)) : pick v i.val = v[i] := by
  simp only [pick, Nat.mod_eq_of_lt i.isLt, Fin.getElem_fin]

section
variable (c : Cartridge) {r : Mmc5} {n i Z : Nat}

theorem chrBankSize_of_mode {m : BitVec 2} (h : r.chrMode = m) : chrBankSize r = 8192 >>> m.toNat := by
  rw [chrBankSize, h]

/-- Set A: window `i` of the 8K space uses the last register of its group. -/
theorem mmc5ChrIndex_a (hset : r.lastChrSet = .a) (hZ : chrBankSize r = Z) (hi : n / Z = i) :
    mmc5ChrIndex c r n =
      bankOffset (pick r.chrA ((i + 1) * (Z / 1024) - 1)).toNat Z n (n / Z * Z) c.chrLen := by
  simp only [mmc5ChrIndex, chrSelect, hset, hZ, hi]
  rfl

/-- Set B in mode 0: one window of 8K, of the last register. -/
theorem mmc5ChrIndex_b_mode0 (hset : r.lastChrSet = .b) (hmode : r.chrMode = 0) :
    mmc5ChrIndex c r n = bankOffset r.chrB[3].toNat 8192 n 0x0000 c.chrLen := by
  have hZ : chrBankSize r = 8192 := chrBankSize_of_mode hmode
  simp only [mmc5ChrIndex, chrSelect, hset, hZ, hmode, if_true]
  rfl

/-- Windows that divide 4K start at the same addresses in the 8K space as in each 4K half. -/
theorem window_base (hZ : Z ∣ 4096) : n / 4096 * 4096 + n % 4096 / Z * Z = n / Z * Z := by
  have hrest : n % 4096 % Z = n % Z := Nat.mod_mod_of_dvd n hZ
  have hhalf := Nat.div_add_mod' n 4096
  have hwindow := Nat.div_add_mod' (n % 4096) Z
  have hwhole := Nat.div_add_mod' n Z
  omega

/-- Set B in the other modes: window `i` of a 4K half uses the last register of its group. -/
theorem mmc5ChrIndex_b (hset : r.lastChrSet = .b) (hmode : r.chrMode ≠ 0) (hZ : chrBankSize r = Z) (hdvd : Z ∣ 4096)
    (hi : n % 4096 / Z = i) :
    mmc5ChrIndex c r n =
      bankOffset (pick r.chrB ((i + 1) * (Z / 1024) - 1)).toNat Z n (n / Z * Z) c.chrLen := by
  rw [← window_base hdvd]
  simp only [mmc5ChrIndex, chrSelect, hset, hZ, hmode, if_false, hi]
  rfl

end

/-- Settles O39: the rows access `mmc5ChrIndex`, whose window in each mode and set is read off by number. -/
theorem mmc5ChrWindows : Obligations.Mmc5ChrWindows := by
  intro s c r a d hs hm ha n bank
  have hn : n ≤ 0x1FFF := ha
  have hgroup (k : Nat) : (k + 1) * (1024 / 1024) - 1 = k := by omega
  refine ⟨exec_mmc5VrChr hs hm ha, ?write, fun hset => ?setA, fun hset => ?setB⟩
  case write => rw [exec_mmc5VwChr hs hm ha, State.chrWrite_eq]
  case setA =>
    have hindex {Z i : Nat} (hZ : chrBankSize r = Z) (hi : n / Z = i) := mmc5ChrIndex_a c hset hZ hi
    refine ⟨fun h => ?mode0, fun h => ?mode1, fun h => ?mode2, fun h i hi => ?mode3⟩
    case mode0 =>
      have hwindow : n / 8192 = 0 := by omega
      have hbank := hindex (Z := 8192) (chrBankSize_of_mode h) hwindow
      rwa [hwindow] at hbank
    case mode1 =>
      have hZ : chrBankSize r = 4096 := chrBankSize_of_mode h
      split_ifs
      · exact hindex hZ (i := 0) (by omega)
      · exact hindex hZ (i := 1) (by omega)
    case mode2 =>
      have hZ : chrBankSize r = 2048 := chrBankSize_of_mode h
      split_ifs
      · exact hindex hZ (i := 0) (by omega)
      · exact hindex hZ (i := 1) (by omega)
      · exact hindex hZ (i := 2) (by omega)
      · exact hindex hZ (i := 3) (by omega)
    case mode3 =>
      have hbank := hindex (Z := 1024) (chrBankSize_of_mode h) hi
      rwa [hgroup, pick_fin, hi, Nat.mul_comm i.val] at hbank
  case setB =>
    have hindex {m : BitVec 2} {Z i : Nat} (h : r.chrMode = m) (hne : m ≠ 0) (hZ : chrBankSize r = Z) (hdvd : Z ∣ 4096)
        (hi : n % 4096 / Z = i) := mmc5ChrIndex_b c hset (h ▸ hne) hZ hdvd hi
    refine ⟨fun h => mmc5ChrIndex_b_mode0 c hset h, fun h => ?mode1, fun h => ?mode2, fun h i hi => ?mode3⟩
    case mode1 => exact hindex (i := 0) h (by decide) (chrBankSize_of_mode h) (by decide) (by omega)
    case mode2 =>
      have hZ : chrBankSize r = 2048 := chrBankSize_of_mode h
      split_ifs
      · exact hindex (i := 0) h (by decide) hZ (by decide) (by omega)
      · exact hindex (i := 1) h (by decide) hZ (by decide) (by omega)
    case mode3 =>
      have hbank := hindex (Z := 1024) h (by decide) (chrBankSize_of_mode h) (by decide) hi
      rwa [hgroup, pick_fin] at hbank

end Sys2Proof.Machine
end

section
/-! SUPPORT. Expansion RAM (44 R185 to R187) and the video-cycle notification (44 R188, 42 R149). -/

namespace Sys2Proof.Machine

section
variable {s : State} {c : Cartridge} {r : Mmc5} (hs : s.Serves c) (hm : c.mapper = .mmc5 r)
include hs hm

section
variable {a : Addr} (hlo : 0x5C00 ≤ a.toNat) (hhi : a.toNat ≤ 0x5FFF)
include hlo hhi

theorem exec_mmc5RExram :
    exec (.mmc5RExram a) s =
      .next (if exRamReadable r then s.answered (r.exRam.read (a.toNat - 0x5C00)) else s.openBus) :=
  State.onRow_run hs.1 hs.2 (cpuAddr_none.2 ⟨hlo, hhi⟩) (congrArg asMmc5 hm)

theorem exec_mmc5WExram (d : Byte) :
    exec (.mmc5WExram a d) s = .next
      (if exRamWritable r then
        s.stored { c with mapper := .mmc5 { r with exRam := r.exRam.write (a.toNat - 0x5C00) d } }
      else { s with result := .ok }) :=
  State.onRow_run hs.1 hs.2 (cpuAddr_none.2 ⟨hlo, hhi⟩) (congrArg asMmc5 hm)

end

theorem exec_mmc5Vc (sl cy : BitVec 16) (bg sp : Bool) :
    exec (.mmc5Vc sl cy bg sp) s = .next { s with
      cart := some { c with mapper := .mmc5 { r with videoActive := visibleScanline s.params sl } }
      result := .nothing } :=
  State.onRow_run hs.1 hs.2 rfl (congrArg asMmc5 hm)

end

section
variable {r : Mmc5}

theorem exRamReadable_iff : exRamReadable r = true ↔ r.exramMode = 2 ∨ r.exramMode = 3 := by
  rw [exRamReadable, Bool.or_eq_true, beq_iff_eq, beq_iff_eq]

/-- In the video modes 0 and 1 the video side decides. -/
theorem exRamWritable_video (h : r.exramMode = 0 ∨ r.exramMode = 1) : exRamWritable r = r.videoActive := by
  obtain h | h := h <;> simp [exRamWritable, h]

theorem exRamWritable_mode2 (h : r.exramMode = 2) : exRamWritable r = true := by
  simp [exRamWritable, h]

theorem exRamWritable_mode3 (h : r.exramMode = 3) : exRamWritable r = false := by
  simp [exRamWritable, h]

theorem exRamReadable_video (h : r.exramMode = 0 ∨ r.exramMode = 1) : exRamReadable r = false := by
  obtain h | h := h <;> simp [exRamReadable, h]

end

/-- Settles O40: a byte that may not be read is the draw of `openBus`. -/
theorem mmc5ExRam : Obligations.Mmc5ExRam := by
  intro s c r a d hs hm hlo hhi written
  have hread := exec_mmc5RExram hs hm hlo hhi
  have hwrite := exec_mmc5WExram hs hm hlo hhi d
  refine ⟨fun h => ?readable, fun h => ?openBus, fun h => ?mode2, fun h => ?mode3, fun h => ?video⟩
  case readable => rw [hread, if_pos (exRamReadable_iff.2 h)]
  case openBus =>
    rw [hread, exRamReadable_video h]
    exact ⟨_, rfl⟩
  case mode2 => rw [hwrite, if_pos (exRamWritable_mode2 h)]
  case mode3 => rw [hwrite, if_neg (ne_true_of_eq_false (exRamWritable_mode3 h))]
  case video => rw [hwrite, exRamWritable_video h]

theorem exec_genVcNop {s : State} {c : Cartridge} (hs : s.Serves c) (hv : c.variant ∈ noCycleVariants)
    (sl cy : BitVec 16) (bg sp : Bool) : exec (.genVcNop sl cy bg sp) s = .next { s with result := .nothing } :=
  State.onRow_run hs.1 hs.2 rfl (ofVariants_some hv)

/-- Settles O41: both rows run at every notification, and `visibleScanline` tests the signed scanline. -/
theorem videoCycles : Obligations.VideoCycles := by
  intro s c sl cy bg sp hs active
  have hactive : visibleScanline s.params sl = active := (Bool.decide_and ..).symm
  refine ⟨fun r hm => ?_, fun hv => exec_genVcNop hs hv sl cy bg sp⟩
  rw [exec_mmc5Vc hs hm, hactive]

end Sys2Proof.Machine
end

section
/-! SUPPORT. What a row of one variant comes to when it is selected: a row that covers every address from its first one
on, a write to a ROM window (30 R93), and a pair of character rows (42 R147). -/

namespace Sys2Proof.Machine

section
variable {s : State} {c : Cartridge} {a : Addr} {α : Type} {addr : Option Refusal} {regs : Mapper → Option α} {x : α}
  (hs : s.Serves c) (hregs : regs c.mapper = some x)
include hs hregs

/-- A row whose range ends with the address space runs from its first address on. -/
theorem State.onRow_from {k : Cartridge → α → State} {lo : Nat} (ha : lo ≤ a.toNat) :
    s.onRow (cpuAddr lo 0xFFFF a) regs k = .next (k c x) :=
  State.onRow_run hs.1 hs.2 (cpuAddr_none.2 ⟨ha, Nat.le_of_lt_succ a.isLt⟩) hregs

theorem State.onRow_illegalWrite {d : Byte} (haddr : addr = none) :
    s.onRow addr regs (fun _ _ => s.raise (.illegalWrite a d)) = .next (s.errored (.illegalWrite a d)) := by
  rw [State.onRow_run hs.1 hs.2 haddr hregs, State.raise_illegalWrite]

/-- The read row and the write row of a variant access character memory at the same offset. -/
theorem State.onRow_chr {d : Byte} (ha : a.toNat ≤ 0x1FFF) {index : Cartridge → α → Nat} {off : Nat}
    (hoff : index c x = off) :
    s.onRow (videoAddr a) regs (fun c x => s.answer (c.chr.read (index c x))) =
        .next (s.answered (c.chr.read off)) ∧
      s.onRow (videoAddr a) regs (fun c x => s.chrWrite c a (index c x) d) =
        .next (if c.chrIsRam then s.stored { c with chr := c.chr.write off d } else s.errored (.illegalWrite a d)) := by
  have hrun {k : Cartridge → α → State} : s.onRow (videoAddr a) regs k = .next (k c x) :=
    State.onRow_run hs.1 hs.2 (videoAddr_none.2 ha) hregs
  rw [hrun, hrun, hoff, State.chrWrite_eq]
  exact ⟨rfl, rfl⟩

end

theorem Cartridge.variant_of_mapper {c : Cartridge} {m : Mapper} (hm : c.mapper = m) : c.variant = m.variant :=
  congrArg Mapper.variant hm

/-- Settles O43: the rows raise an illegal write and do nothing else. -/
theorem romWindowWrites : Obligations.RomWindowWrites := by
  intro s c a d hs
  refine ⟨fun hm ha => ?nrom, fun b hm hlo hhi => ?camerica71, fun r hm hlo hhi => ?mmc24⟩
  case nrom =>
    have hv : c.mapper.variant ∈ [Variant.nrom] := List.mem_singleton.2 (Cartridge.variant_of_mapper hm)
    exact State.onRow_illegalWrite hs (ofVariants_some hv) (cpuAddr_none.2 ⟨ha, Nat.le_of_lt_succ a.isLt⟩)
  case camerica71 => exact State.onRow_illegalWrite hs (congrArg asCamerica71 hm) (cpuAddr_none.2 ⟨hlo, hhi⟩)
  case mmc24 => exact State.onRow_illegalWrite hs (asMmc24_of_mmc2_or_mmc4 hm) (cpuAddr_none.2 ⟨hlo, hhi⟩)

end Sys2Proof.Machine
end

section
/-! SUPPORT. The program windows of the discrete-logic variants (45 R189 to R214): the bank that each half of
0x8000..0xFFFF shows, and the bit fields of a bank register as numbers. -/

namespace Sys2Proof.Machine

/-- A bit field by arithmetic on the whole. -/
theorem toNat_field {w : Nat} (x : BitVec w) (k n : Nat) : (x.extractLsb' k n).toNat = x.toNat / 2 ^ k % 2 ^ n := by
  rw [BitVec.extractLsb'_toNat, Nat.shiftRight_eq_div_pow]

/-- The field of the lowest bits. -/
theorem toNat_lowField {w : Nat} (x : BitVec w) (n : Nat) : (x.extractLsb' 0 n).toNat = x.toNat % 2 ^ n := by
  rw [toNat_field, Nat.pow_zero, Nat.div_one]

/-- The field of all bits from `k` on. -/
theorem toNat_highField {k n : Nat} (x : BitVec (k + n)) : (x.extractLsb' k n).toNat = x.toNat / 2 ^ k := by
  have hlt : x.toNat / 2 ^ k < 2 ^ n := Nat.div_lt_of_lt_mul (Nat.pow_add 2 k n ▸ x.isLt)
  rw [toNat_field, Nat.mod_eq_of_lt hlt]

section
variable (c : Cartridge) {n : Nat}

/-- `PrgRom` is whole 16K banks (10 R26). -/
theorem Cartridge.count16_eq : c.count16 = c.prgBanks :=
  Nat.mul_div_cancel_left _ (by decide)

theorem Cartridge.lowBankHighFixed_low (b : Nat) (h : n < 0xC000) :
    c.lowBankHighFixed b n = c.romByte b 16384 n 0x8000 :=
  if_pos h

theorem Cartridge.lowBankHighFixed_high (b : Nat) (h : 0xC000 ≤ n) :
    c.lowBankHighFixed b n = c.romByte (c.prgBanks - 1) 16384 n 0xC000 := by
  rw [Cartridge.lowBankHighFixed, if_neg (Nat.not_lt.2 h), c.count16_eq]

/-- A 16K image in the 32K window repeats (45 R189). -/
theorem Cartridge.fixedWindow_index (hbanks : 1 ≤ c.prgBanks) (hlo : 0x8000 ≤ n) (hhi : n ≤ 0xFFFF) :
    bankOffset 0 32768 n 0x8000 c.prgLen = if c.prgBanks = 1 then (n - 0x8000) % 16384 else n - 0x8000 := by
  split
  case isTrue hone =>
    have hlen : c.prgLen = 16384 := by rw [Cartridge.prgLen, hone, Config.prgBankUnit]
    rw [hlen, bankOffset, if_pos (by decide)]
  case isFalse hmore =>
    have hwhole : 32768 ≤ 16384 * c.prgBanks := by omega
    exact bankOffset_zero (by omega) hwhole

section
variable (reg : Byte) {mode : BitVec 2}

/-- In mode 2 each 8K quarter shows the half of the 16K bank that bit 7 names. -/
theorem m15PrgByte_mode2 :
    m15PrgByte c reg 2 n =
      c.romByte (2 * (reg.toNat % 64) + reg.toNat / 128) 8192 n (0x8000 + 8192 * ((n - 0x8000) / 8192)) := by
  have hbank : (reg.extractLsb' 0 6).toNat = reg.toNat % 64 := toNat_lowField reg 6
  have hhalf : (reg.extractLsb' 7 1).toNat = reg.toNat / 128 := toNat_highField (k := 7) (n := 1) reg
  rw [m15PrgByte, if_pos rfl, hbank, hhalf, quarter]

/-- In the other modes the low 16K half shows the bank of the register. -/
theorem m15PrgByte_low (hmode : mode ≠ 2) (h : n < 0xC000) :
    m15PrgByte c reg mode n = c.romByte (reg.toNat % 64) 16384 n 0x8000 := by
  rw [m15PrgByte, if_neg hmode, half16, if_pos h, if_pos h, toNat_lowField]
  rfl

/-- In the other modes the high 16K half shows the bank that the mode makes of it. -/
theorem m15PrgByte_high (hmode : mode ≠ 2) (h : 0xC000 ≤ n) :
    m15PrgByte c reg mode n =
      c.romByte
        (if mode = 0 then reg.toNat % 64 ||| 1 else if mode = 1 then reg.toNat % 64 ||| 7 else reg.toNat % 64)
        16384 n 0xC000 := by
  rw [m15PrgByte, if_neg hmode, half16, if_neg (Nat.not_lt.2 h), if_neg (Nat.not_lt.2 h), toNat_lowField]
  rfl

end

end

/-- Settles O42: bank 0 of the 32K window. -/
theorem fixedProgramWindow : Obligations.FixedProgramWindow := by
  intro s c a hs hv hbanks ha
  have hread : exec (.nromRPrg a) s = .next (s.answered (c.romByte 0 32768 a.toNat 0x8000)) :=
    State.onRow_from hs (ofVariants_some hv) ha
  rw [hread, Cartridge.romByte, c.fixedWindow_index hbanks ha (Nat.le_of_lt_succ a.isLt)]

/-- Settles O47: each row runs, and shows the bank of its window. -/
theorem simpleProgramReads : Obligations.SimpleProgramReads := by
  intro s c b a hs ha n rom lowHigh
  have hshow {i : Instr} {byte : Byte} {bank S lo : Nat} (hrun : exec i s = .next (s.answered byte))
      (hbyte : byte = c.romByte bank S n lo) : rom i bank S lo := by
    subst hbyte
    exact hrun
  have hlowHigh {i : Instr} (hrun : exec i s = .next (s.answered (c.lowBankHighFixed b.toNat n))) : lowHigh i :=
    ⟨fun hlo => hshow hrun (c.lowBankHighFixed_low _ hlo), fun hhi => hshow hrun (c.lowBankHighFixed_high _ hhi)⟩
  have hm15 {mode : BitVec 2} (hm : c.mapper = .m15 b mode) :
      exec (.m15RPrg a) s = .next (s.answered (m15PrgByte c b mode n)) :=
    State.onRow_from hs (congrArg asM15 hm) ha
  refine ⟨fun hm => ?uxrom, fun hm => ?camerica71, fun hm => ?axrom, fun hm => ?colorDreams, fun hm => ?gxrom,
    fun hm => ?mode0, fun hm => ?mode1, fun hm => ?mode2, fun hm => ?mode3⟩
  case uxrom => exact hlowHigh (State.onRow_from hs (congrArg asUxrom hm) ha)
  case camerica71 => exact hlowHigh (State.onRow_from hs (congrArg asCamerica71 hm) ha)
  case axrom => exact toNat_lowField b 3 ▸ State.onRow_from hs (congrArg asAxrom hm) ha
  case colorDreams => exact toNat_lowField b 2 ▸ State.onRow_from hs (congrArg asColorDreams hm) ha
  case gxrom => exact toNat_field b 4 2 ▸ State.onRow_from hs (congrArg asGxrom hm) ha
  case mode0 | mode1 =>
    exact ⟨fun hlo => hshow (hm15 hm) (m15PrgByte_low c b (by decide) hlo),
      fun hhi => hshow (hm15 hm) (m15PrgByte_high c b (by decide) hhi)⟩
  case mode2 => exact hshow (hm15 hm) (m15PrgByte_mode2 c b)
  case mode3 =>
    split
    case isTrue hlo => exact hshow (hm15 hm) (m15PrgByte_low c b (by decide) hlo)
    case isFalse hhi => exact hshow (hm15 hm) (m15PrgByte_high c b (by decide) (Nat.not_lt.1 hhi))

end Sys2Proof.Machine
end

section
/-! SUPPORT. The bank registers of the discrete-logic variants (45 R193 to R217), and the program read row that CNROM and
CPROM share with NROM (30 R88). -/

namespace Sys2Proof.Machine

/-- A row whose range ends with the address space and tests no parity covers every address from its first one on. -/
theorem coversRow_from {r : Row} {a : Addr} (hhi : r.hi = 0xFFFF) (hparity : r.parity = none) (ha : r.lo ≤ a.toNat) :
    coversRow r a = true := by
  have hlast : a.toNat ≤ r.hi := hhi ▸ Nat.le_of_lt_succ a.isLt
  simp [coversRow, within, hparity, ha, hlast]

/-- The row that the decode finds builds the instruction. -/
theorem mapperRow_of_findRow {p : Params} {v : Variant} {f : Format} {a : Addr} {r : Row} (d : Byte)
    (hbelow : belowCart p f a = false) (hrow : findRow v f a = some r) :
    mapperRow p v f a d = some (r.build a d) := by
  rw [mapperRow, hbelow, if_neg Bool.false_ne_true, hrow]

/-- Of the read rows of NROM, CNROM and CPROM the program row is the last, after that of program RAM. -/
theorem findRow_nromRPrg {v : Variant} {a : Addr} (hv : v ∈ [Variant.nrom, .cnrom, .cprom]) (ha : 0x8000 ≤ a.toNat) :
    findRow v .cpuRead a =
      some ⟨[.nrom, .cnrom, .cprom], 0x8000, 0xFFFF, none, 0x8000, 0x8000, fun a _ => .nromRPrg a⟩ := by
  have hrows : ∃ row : Row, row.hi = 0x7FFF ∧ (rowsOf .cpuRead).filter (fun r => r.variants.contains v) =
      [row, ⟨[.nrom, .cnrom, .cprom], 0x8000, 0xFFFF, none, 0x8000, 0x8000, fun a _ => .nromRPrg a⟩] := by
    simp only [List.mem_cons, List.not_mem_nil, or_false] at hv
    obtain rfl | rfl | rfl := hv <;> exact ⟨_, rfl, rfl⟩
  obtain ⟨row, hhi, hrows⟩ := hrows
  have hbelow : ∀ r ∈ [row], r.hi < a.toNat := List.forall_mem_singleton.2 (hhi ▸ ha)
  exact findRow_last hrows hbelow (coversRow_from rfl rfl ha)

/-- Settles O45: each row puts its register; the program row of CNROM and CPROM is NROM's. -/
theorem simpleRegisterWrites : Obligations.SimpleRegisterWrites := by
  intro s c b a d hs ha nromReads
  have hreads {v : Variant} (hv : c.variant = v) (hnrom : v ∈ [Variant.nrom, .cnrom, .cprom]) : nromReads := by
    intro hcart
    have hbelow : belowCart s.params .cpuRead a = false := decide_eq_false (Nat.not_lt.2 hcart)
    exact mapperRow_of_findRow 0 hbelow (findRow_nromRPrg (hv ▸ hnrom) ha)
  refine ⟨fun hm => ?uxrom, fun hm => ⟨?cnrom, ?cnromReads⟩, fun hm => ?colorDreams,
    fun hm => ⟨?cprom, ?cpromReads⟩, fun hm => ?gxrom, fun hm hhi => ?camerica71⟩
  case uxrom => exact State.onRow_from hs (congrArg asUxrom hm) ha
  case cnrom => exact State.onRow_from hs (congrArg asCnrom hm) ha
  case colorDreams => exact State.onRow_from hs (congrArg asColorDreams hm) ha
  case cprom => exact State.onRow_from hs (congrArg asCprom hm) ha
  case gxrom => exact State.onRow_from hs (congrArg asGxrom hm) ha
  case camerica71 => exact State.onRow_from hs (congrArg asCamerica71 hm) hhi
  case cnromReads => exact hreads (v := .cnrom) (Cartridge.variant_of_mapper hm) (by decide)
  case cpromReads => exact hreads (v := .cprom) (Cartridge.variant_of_mapper hm) (by decide)

end Sys2Proof.Machine
end

section
/-! SUPPORT. The character windows of the discrete-logic variants (45 R196 to R213). -/

namespace Sys2Proof.Machine

section
variable (c : Cartridge) (reg : Byte) {n : Nat}

/-- The low 4K of CPROM is always bank 0. -/
theorem cpromChrIndex_low (h : n < 0x1000) : cpromChrIndex c reg n = c.chrIndex 0 4096 n 0 :=
  if_pos h

/-- The high 4K of CPROM is the bank of the register. -/
theorem cpromChrIndex_high (h : 0x1000 ≤ n) :
    cpromChrIndex c reg n = c.chrIndex (reg.toNat % 4) 4096 n 0x1000 := by
  rw [cpromChrIndex, if_neg (Nat.not_lt.2 h), toNat_lowField]
  rfl

end

/-- 100-in-1 writes character memory as the other variants do, unless its mode protects it (45 R209). -/
theorem exec_m15VwChr {s : State} {c : Cartridge} {reg : Byte} {mode : BitVec 2} {a : Addr} (hs : s.Serves c)
    (hm : c.mapper = .m15 reg mode) (ha : a.toNat ≤ 0x1FFF) (d : Byte) :
    exec (.m15VwChr a d) s =
      .next (if mode = 0 ∨ mode = 3 then s.raise (.illegalWrite a d) else s.chrWrite c a a.toNat d) :=
  State.onRow_run hs.1 hs.2 (videoAddr_none.2 ha) (congrArg asM15 hm)

/-- Settles O48: the two rows of a variant access one offset; 100-in-1 has the fixed bank. -/
theorem simpleChr : Obligations.SimpleChr := by
  intro s c b a d hs ha n writes both
  refine ⟨fun hm => ?cnrom, fun hm => ?colorDreams, fun hm => ?gxrom,
    fun hm => ⟨fun hlo => ?cpromLow, fun hhi => ?cpromHigh⟩, fun mode hm => ?m15⟩
  case cnrom => exact State.onRow_chr hs (congrArg asCnrom hm) ha rfl
  case colorDreams =>
    exact State.onRow_chr hs (congrArg asColorDreams hm) ha
      (congrArg (c.chrIndex · 8192 n 0) (toNat_highField (k := 4) (n := 4) b))
  case gxrom =>
    exact State.onRow_chr hs (congrArg asGxrom hm) ha (congrArg (c.chrIndex · 8192 n 0) (toNat_lowField b 2))
  case cpromLow => exact State.onRow_chr hs (congrArg asCprom hm) ha (cpromChrIndex_low c b hlo)
  case cpromHigh => exact State.onRow_chr hs (congrArg asCprom hm) ha (cpromChrIndex_high c b hhi)
  case m15 =>
    have hv : c.variant = .m15 := Cartridge.variant_of_mapper hm
    have hwrite := exec_m15VwChr hs hm ha d
    refine ⟨exec_genVrChr8fixed hs (hv ▸ by decide) ha, fun hprotected => ?_, fun hfree => ?_⟩
    · rw [hwrite, if_pos hprotected, State.raise_illegalWrite]
    · have hopen : ¬(mode = 0 ∨ mode = 3) := by
        obtain rfl | rfl := hfree <;> decide
      exact hwrite.trans (by rw [if_neg hopen, State.chrWrite_eq])

end Sys2Proof.Machine
end

section
/-! SUPPORT. What the rows of MMC1 to MMC4 share: a program row that is selected, the plain program RAM window, and the
count of 8K banks. -/

namespace Sys2Proof.Machine

/-- A program row answers the byte of its bank (30 R88). -/
theorem State.onRow_program {α : Type} {s : State} {c : Cartridge} {a : Addr} {regs : Mapper → Option α} {x : α}
    (hs : s.Serves c) (hregs : regs c.mapper = some x) (ha : 0x8000 ≤ a.toNat) {byte : Cartridge → α → Byte}
    {bank S lo : Nat} (hbyte : byte c x = c.romByte bank S a.toNat lo) :
    s.onRow (cpuAddr 0x8000 0xFFFF a) regs (fun c x => s.answer (byte c x)) =
      .next (s.answered (c.prgRom.read (bankOffset bank S a.toNat lo c.prgLen))) := by
  rw [State.onRow_from hs hregs ha, hbyte]
  rfl

/-- The 8K program RAM window of a known mapper (42 R143). -/
theorem Cartridge.ram6000_of_mapper {c : Cartridge} {m : Mapper} (hm : c.mapper = m) (p : Params) (n : Nat) :
    c.ram6000 p 0 n = bankOffset 0 8192 n 0x6000 (p.prgRamSize m.variant) := by
  rw [Cartridge.ram6000, Cartridge.ramIndex, Cartridge.prgRamLen, Cartridge.variant_of_mapper hm]

/-- `PrgRom` is two 8K banks for each 16K bank (10 R26). -/
theorem Cartridge.count8_eq (c : Cartridge) : c.count8 = 2 * c.prgBanks := by
  rw [Cartridge.count8, Cartridge.prgLen, Config.prgBankUnit]
  omega

end Sys2Proof.Machine
end

section
/-! SUPPORT. One write of the MMC1 serial port (46 R221, R222), from the two cases of `exec_mmc1WSerial`. -/

namespace Sys2Proof.Machine

/-- Settles O49: bit 7 resets, the first four writes shift, and the fifth commits to the quarter that holds the
address. -/
theorem mmc1Serial : Obligations.Mmc1Serial := by
  intro s c r a d hs hm ha v empty becomes mirrors
  have hv : mmc1Shifted r d = v := mmc1Shifted_eq r d
  refine ⟨fun hd => ?reset, fun hd hn => ?shift, fun hd hn => ?commit⟩
  case reset => exact (exec_mmc1WSerial hs hm ha).trans (congrArg _ (if_pos hd))
  case shift =>
    have hshift := exec_mmc1WSerial_shift hs hm ha hd hn
    rwa [Mmc1.shifted, hv] at hshift
  case commit =>
    have hcommit := exec_mmc1WSerial_commit hs hm ha hd hn
    rw [hv] at hcommit
    have hcontrol (hhi : a.toNat < 0xA000) (m : BitVec 2) (hlow : v.extractLsb' 0 2 = m) :
        mirrors (mmc1Mirror m).1 (mmc1Mirror m).2 := by
      rw [State.mmc1Commit_control s c r v ha hhi, hlow] at hcommit
      exact hcommit
    refine ⟨fun hhi => ⟨hcontrol hhi 0, hcontrol hhi 1, hcontrol hhi 2, hcontrol hhi 3⟩, fun hlo hhi => ?chr0,
      fun hlo hhi => ?chr1, fun hlo => ?prg⟩
    case chr0 => exact hcommit.trans (congrArg _ (State.mmc1Commit_chr0 s c r v hlo hhi))
    case chr1 => exact hcommit.trans (congrArg _ (State.mmc1Commit_chr1 s c r v hlo hhi))
    case prg => exact hcommit.trans (congrArg _ (State.mmc1Commit_prg s c r v hlo))

end Sys2Proof.Machine
end

section
/-! SUPPORT. The windows of MMC1 (46 R223 to R227): the bank of each mode and address, and program RAM with its disable
bit. -/

namespace Sys2Proof.Machine

section
variable (c : Cartridge) (r : Mmc1) {n : Nat}

/-- The program mode and bank by arithmetic on their registers. -/
theorem mmc1PrgByte_eq :
    mmc1PrgByte c r n =
      if r.control.toNat / 4 % 4 = 2 then c.romByte (if n < 0xC000 then 0 else r.prg.toNat % 16) 16384 n (half16 n)
      else if r.control.toNat / 4 % 4 = 3 then
        c.romByte (if n < 0xC000 then r.prg.toNat % 16 else c.prgBanks - 1) 16384 n (half16 n)
      else c.romByte (r.prg.toNat % 16 / 2) 32768 n 0x8000 := by
  have hmode : (r.control.extractLsb' 2 2).toNat = r.control.toNat / 4 % 4 := toNat_field _ 2 2
  have hbank : (r.prg.extractLsb' 0 4).toNat = r.prg.toNat % 16 := toNat_lowField _ 4
  simp only [mmc1PrgByte, ← BitVec.toNat_inj, hmode, hbank, c.count16_eq]
  rfl

theorem mmc1PrgByte_32k (h : r.control.toNat / 4 % 4 < 2) :
    mmc1PrgByte c r n = c.romByte (r.prg.toNat % 16 / 2) 32768 n 0x8000 := by
  rw [mmc1PrgByte_eq, if_neg (by omega), if_neg (by omega)]

/-- Mode 2 fixes the low half. -/
theorem mmc1PrgByte_mode2 (h : r.control.toNat / 4 % 4 = 2) :
    mmc1PrgByte c r n =
      if n < 0xC000 then c.romByte 0 16384 n 0x8000 else c.romByte (r.prg.toNat % 16) 16384 n 0xC000 := by
  rw [mmc1PrgByte_eq, if_pos h, half16]
  split <;> rfl

/-- Mode 3 fixes the high half. -/
theorem mmc1PrgByte_mode3 (h : r.control.toNat / 4 % 4 = 3) :
    mmc1PrgByte c r n =
      if n < 0xC000 then c.romByte (r.prg.toNat % 16) 16384 n 0x8000
      else c.romByte (c.prgBanks - 1) 16384 n 0xC000 := by
  rw [mmc1PrgByte_eq, if_neg (by omega), if_pos h, half16]
  split <;> rfl

theorem mmc1ChrIndex_8k (h : r.control.getLsbD 4 = false) :
    mmc1ChrIndex c r n = bankOffset (r.chr0.toNat / 2) 8192 n 0x0000 c.chrLen :=
  if_pos h

theorem mmc1ChrIndex_low (h : r.control.getLsbD 4 = true) (hlow : n < 0x1000) :
    mmc1ChrIndex c r n = bankOffset r.chr0.toNat 4096 n 0x0000 c.chrLen := by
  rw [mmc1ChrIndex, if_neg (ne_false_of_eq_true h), if_pos hlow, Cartridge.chrIndex]

theorem mmc1ChrIndex_high (h : r.control.getLsbD 4 = true) (hhigh : 0x1000 ≤ n) :
    mmc1ChrIndex c r n = bankOffset r.chr1.toNat 4096 n 0x1000 c.chrLen := by
  rw [mmc1ChrIndex, if_neg (ne_false_of_eq_true h), if_neg (Nat.not_lt.2 hhigh), Cartridge.chrIndex]

end

section
variable {s : State} {c : Cartridge} {r : Mmc1} {a : Addr} (hs : s.Serves c) (hm : c.mapper = .mmc1 r)
  (hlo : 0x6000 ≤ a.toNat) (hhi : a.toNat ≤ 0x7FFF)
include hs hm hlo hhi

theorem exec_mmc1RPrgram :
    exec (.mmc1RPrgram a) s = .next
      (if r.prg.getLsbD 4 then s.openBus
      else s.answered (c.prgRam.read (bankOffset 0 8192 a.toNat 0x6000 (s.params.prgRamSize .mmc1)))) := by
  rw [exec, execMmc1RPrgram, State.onRow_run hs.1 hs.2 (cpuAddr_none.2 ⟨hlo, hhi⟩) (congrArg asMmc1 hm),
    Cartridge.ram6000_of_mapper hm]
  rfl

theorem exec_mmc1WPrgram (d : Byte) :
    exec (.mmc1WPrgram a d) s = .next
      (if r.prg.getLsbD 4 then s.errored (.writeProtected a d)
      else s.stored { c with
        prgRam := c.prgRam.write (bankOffset 0 8192 a.toNat 0x6000 (s.params.prgRamSize .mmc1)) d }) := by
  rw [exec, execMmc1WPrgram, State.onRow_run hs.1 hs.2 (cpuAddr_none.2 ⟨hlo, hhi⟩) (congrArg asMmc1 hm),
    Cartridge.ram6000_of_mapper hm, State.raise_writeProtected]
  rfl

end

/-- Settles O51: each program and character window is its bank, and bit 4 of `prg` decides the RAM window. -/
theorem mmc1Windows : Obligations.Mmc1Windows := by
  intro s c r a d hs hm n k index rom chr
  have hrom (ha : 0x8000 ≤ n) {bank S lo : Nat} (hbyte : mmc1PrgByte c r n = c.romByte bank S n lo) : rom bank S lo :=
    State.onRow_program hs (congrArg asMmc1 hm) ha hbyte
  have hchr (ha : n ≤ 0x1FFF) {bank S lo : Nat} (hoff : mmc1ChrIndex c r n = bankOffset bank S n lo c.chrLen) :
      chr bank S lo :=
    State.onRow_chr hs (congrArg asMmc1 hm) ha hoff
  refine ⟨fun ha h => hrom ha (mmc1PrgByte_32k c r h), fun ha h => ?mode2, fun ha h => ?mode3,
    fun hlo hhi h => ⟨?ramRead, ?ramWrite⟩, fun hlo hhi h => ⟨?openBus, ?denied⟩,
    fun ha h => hchr ha (mmc1ChrIndex_8k c r h), fun ha h => ?chr4k⟩
  case mode2 =>
    exact ⟨fun hlow => hrom ha ((mmc1PrgByte_mode2 c r h).trans (if_pos hlow)),
      fun hhigh => hrom ha ((mmc1PrgByte_mode2 c r h).trans (if_neg (Nat.not_lt.2 hhigh)))⟩
  case mode3 =>
    exact ⟨fun hlow => hrom ha ((mmc1PrgByte_mode3 c r h).trans (if_pos hlow)),
      fun hhigh => hrom ha ((mmc1PrgByte_mode3 c r h).trans (if_neg (Nat.not_lt.2 hhigh)))⟩
  case ramRead => rw [exec_mmc1RPrgram hs hm hlo hhi, if_neg (ne_true_of_eq_false h)]
  case ramWrite => rw [exec_mmc1WPrgram hs hm hlo hhi, if_neg (ne_true_of_eq_false h)]
  case openBus => exact ⟨_, (exec_mmc1RPrgram hs hm hlo hhi).trans (congrArg _ (if_pos h))⟩
  case denied => rw [exec_mmc1WPrgram hs hm hlo hhi, if_pos h]
  case chr4k =>
    exact ⟨fun hlow => hchr ha (mmc1ChrIndex_low c r h hlow), fun hhigh => hchr ha (mmc1ChrIndex_high c r h hhigh)⟩

end Sys2Proof.Machine
end

section
/-! SUPPORT. The bank registers of MMC2 and MMC4 (46 R230 to R234): each row is `mmc24Write` of its one register. -/

namespace Sys2Proof.Machine

/-- A register write of MMC2 or MMC4 stores the updated registers in a mapper of the same variant and answers `ok`. -/
theorem State.mmc24Write_run {s : State} {c : Cartridge} {m : Mmc24 → Mapper} {r : Mmc24} {lo hi : Nat} {a : Addr}
    (hs : s.Serves c) (hvariant : m = Mapper.mmc2 ∨ m = Mapper.mmc4) (hm : c.mapper = m r) (hlo : lo ≤ a.toNat)
    (hhi : a.toNat ≤ hi) (f : Mmc24 → Mmc24) :
    s.mmc24Write (cpuAddr lo hi a) f = .next (s.stored { c with mapper := m (f r) }) := by
  have hregs : asMmc24 c.mapper = some r := by
    obtain rfl | rfl := hvariant <;> rw [hm] <;> rfl
  have hput : withMmc24 c.mapper (f r) = m (f r) := by
    obtain rfl | rfl := hvariant <;> rw [hm] <;> rfl
  rw [State.mmc24Write, State.onRow_run hs.1 hs.2 (cpuAddr_none.2 ⟨hlo, hhi⟩) hregs, hput, State.putRegs_stored]

/-- Settles O52: each row is `mmc24Write` of its one register. -/
theorem mmc24Registers : Obligations.Mmc24Registers := by
  intro s c m r a d hs hvariant hm n becomes
  have hrun {lo hi : Nat} (hlo : lo ≤ n) (hhi : n ≤ hi) := State.mmc24Write_run hs hvariant hm hlo hhi
  exact ⟨fun hlo hhi => hrun hlo hhi _, fun hlo hhi => hrun hlo hhi _, fun hlo hhi => hrun hlo hhi _,
    fun hlo hhi => hrun hlo hhi _, fun hlo hhi => hrun hlo hhi _⟩

end Sys2Proof.Machine
end

section
/-! SUPPORT. The windows of MMC2 and MMC4 (46 R236 to R242): the program banks counted from the end, and the character
offset of the latches. -/

namespace Sys2Proof.Machine

section
variable (c : Cartridge) (r : Mmc24) {n : Nat}

theorem mmc2PrgByte_low (h : n < 0xA000) :
    mmc2PrgByte c r n = c.romByte (r.prgSel.toNat % 16) 8192 n 0x8000 := by
  rw [mmc2PrgByte, if_pos h, toNat_lowField]
  rfl

/-- The fixed windows show the last three banks: the remainder of `Int` is that of `Nat` one count higher. -/
theorem mmc2PrgByte_fixed {i : Nat} (hbanks : 1 ≤ c.prgBanks) (hlo : 0xA000 + 8192 * i ≤ n)
    (hhi : n < 0xA000 + 8192 * (i + 1)) :
    mmc2PrgByte c r n =
      c.romByte ((4 * c.prgBanks + i - 3) % (2 * c.prgBanks)) 8192 n (0xA000 + 8192 * i) := by
  have hwindow : (n - 0xA000) / 8192 = i := by omega
  have hbank : ((((2 * c.prgBanks : Nat) : Int) + i - 3) % (2 * c.prgBanks : Nat)).toNat =
      (4 * c.prgBanks + i - 3) % (2 * c.prgBanks) := by
    rw [← Int.add_emod_right]
    have hcast : ((2 * c.prgBanks : Nat) : Int) + i - 3 + (2 * c.prgBanks : Nat) =
        ((4 * c.prgBanks + i - 3 : Nat) : Int) := by omega
    rw [hcast, ← Int.natCast_mod, Int.toNat_natCast]
  rw [mmc2PrgByte, if_neg (by omega)]
  simp only [hwindow, c.count8_eq, hbank]

/-- Only the first fixed window may wrap: the others show banks that every `PrgRom` has. -/
theorem fixedBank_fromEnd {banks i k : Nat} (hbanks : 1 ≤ banks) (hi : 1 ≤ i) (hk : 1 ≤ k)
    (hwindow : i + k = 3) : (4 * banks + i - 3) % (2 * banks) = 2 * banks - k := by
  have htwice : 4 * banks + i - 3 = 2 * banks + (2 * banks - k) := by omega
  rw [htwice, Nat.add_mod_left, Nat.mod_eq_of_lt (by omega)]

/-- The 5-bit bank of the register that a latch selects. -/
theorem latchedBank_toNat (latch : Latch) (fd fe : Byte) :
    ((if latch = .fd then fd else fe).extractLsb' 0 5).toNat =
      if latch = .fd then fd.toNat % 32 else fe.toNat % 32 := by
  cases latch <;> exact toNat_lowField _ 5

/-- The character offset by arithmetic on the registers (46 R238). -/
theorem chr24Offset_eq :
    chr24Offset c r n =
      if n < 0x1000 then
        bankOffset (if r.latch0 = .fd then r.chr0FD.toNat % 32 else r.chr0FE.toNat % 32) 4096 n 0 c.chrLen
      else
        bankOffset (if r.latch1 = .fd then r.chr1FD.toNat % 32 else r.chr1FE.toNat % 32) 4096 n 0x1000 c.chrLen := by
  rw [chr24Offset, latchedBank_toNat, latchedBank_toNat]
  rfl

end

section
variable {s : State} {c : Cartridge} {r : Mmc24} {a : Addr} (hs : s.Serves c) (ha : a.toNat ≤ 0x1FFF)
include hs ha

theorem exec_mmc2VrChr (hm : c.mapper = .mmc2 r) :
    exec (.mmc2VrChr a) s = .next { s with
      cart := some { c with mapper := .mmc2 (mmc2Latch r a.toNat) }
      result := .data (c.chr.read (chr24Offset c r a.toNat)) } :=
  State.onRow_run hs.1 hs.2 (videoAddr_none.2 ha) (congrArg asMmc2 hm)

theorem exec_mmc4VrChr (hm : c.mapper = .mmc4 r) :
    exec (.mmc4VrChr a) s = .next { s with
      cart := some { c with mapper := .mmc4 (mmc4Latch r a.toNat) }
      result := .data (c.chr.read (chr24Offset c r a.toNat)) } :=
  State.onRow_run hs.1 hs.2 (videoAddr_none.2 ha) (congrArg asMmc4 hm)

theorem exec_mmc24VwChr (d : Byte) (hm : c.mapper = .mmc2 r ∨ c.mapper = .mmc4 r) :
    exec (.mmc24VwChr a d) s = .next (s.chrWrite c a (chr24Offset c r a.toNat) d) :=
  State.onRow_run hs.1 hs.2 (videoAddr_none.2 ha) (asMmc24_of_mmc2_or_mmc4 hm)

end

/-- Settles O53: the byte of a video read is at the offset of the latches before it, and the row then stores the latches
after it. -/
theorem mmc24Windows : Obligations.Mmc24Windows := by
  intro s c r a d hs n rom low high off latches
  have hoff : chr24Offset c r n = off := chr24Offset_eq c r
  have hlast : n < 0x10000 := a.isLt
  refine ⟨fun hm ha hbanks => ?mmc2Rom, fun hm ha => ?mmc4Rom, fun hm ha => ?mmc2Chr, fun hm ha => ?mmc4Chr,
    fun hm ha => ?write⟩
  case mmc2Rom =>
    have hread {bank S lo : Nat} (hbyte : mmc2PrgByte c r n = c.romByte bank S n lo) : rom (.mmc2RPrg a) bank S lo :=
      State.onRow_program hs (congrArg asMmc2 hm) ha hbyte
    have hfixed {i bank : Nat} (hlo : 0xA000 + 8192 * i ≤ n) (hhi : n < 0xA000 + 8192 * (i + 1))
        (hbank : (4 * c.prgBanks + i - 3) % (2 * c.prgBanks) = bank) :
        rom (.mmc2RPrg a) bank 8192 (0xA000 + 8192 * i) :=
      hread (hbank ▸ mmc2PrgByte_fixed c r hbanks hlo hhi)
    exact ⟨fun hhi => hread (mmc2PrgByte_low c r hhi), fun hlo hhi => hfixed (i := 0) hlo hhi rfl,
      fun hlo hhi => hfixed (i := 1) hlo hhi (fixedBank_fromEnd hbanks (by decide) (by decide) rfl),
      fun hlo => hfixed (i := 2) hlo hlast (fixedBank_fromEnd hbanks (by decide) (by decide) rfl)⟩
  case mmc4Rom =>
    have hread {bank S lo : Nat}
        (hbyte : c.lowBankHighFixed (r.prgSel.extractLsb' 0 4).toNat n = c.romByte bank S n lo) :
        rom (.mmc4RPrg a) bank S lo :=
      State.onRow_program hs (congrArg asMmc4 hm) ha hbyte
    rw [toNat_lowField] at hread
    exact ⟨fun hlo => hread (c.lowBankHighFixed_low _ hlo), fun hhi => hread (c.lowBankHighFixed_high _ hhi)⟩
  case mmc2Chr =>
    have hread := exec_mmc2VrChr hs ha hm
    rwa [hoff] at hread
  case mmc4Chr =>
    have hread := exec_mmc4VrChr hs ha hm
    rwa [hoff] at hread
  case write => rw [exec_mmc24VwChr hs ha d hm, hoff, State.chrWrite_eq]

end Sys2Proof.Machine
end

section
/-! SUPPORT. The registers of MMC3 (46 R243 to R250): each row is `mmc3Write` of the registers that its rule names. -/

namespace Sys2Proof.Machine

/-- A register write of MMC3 at an address of its row's range and parity stores the updated registers. -/
theorem State.mmc3Write_run {s : State} {c : Cartridge} {r : Mmc3} {lo hi parity : Nat} {a : Addr} (hs : s.Serves c)
    (hm : c.mapper = .mmc3 r) (hlo : lo ≤ a.toNat) (hhi : a.toNat ≤ hi) (hparity : a.toNat % 2 = parity)
    (f : Mmc3 → Mmc3) :
    s.mmc3Write (parityAddr lo hi parity a) f = .next (s.stored { c with mapper := .mmc3 (f r) }) :=
  State.onRow_run hs.1 hs.2 (parityAddr_none.2 ⟨hlo, hhi, hparity⟩) (congrArg asMmc3 hm)

/-- Settles O54: each row is `mmc3Write`, and the bank data row pokes the register that `bankSelect` names. -/
theorem mmc3Registers : Obligations.Mmc3Registers := by
  intro s c r a d hs hm n becomes
  have hlast : n ≤ 0xFFFF := Nat.le_of_lt_succ a.isLt
  have hrun {lo hi parity : Nat} (hlo : lo ≤ n) (hhi : n ≤ hi) (hparity : n % 2 = parity) :=
    State.mmc3Write_run hs hm hlo hhi hparity
  refine ⟨fun hlo hhi he => hrun hlo hhi he _, fun hlo hhi ho => ?bankData, fun hlo hhi ho => hrun hlo hhi ho _,
    fun hlo hhi he => hrun hlo hhi he _, fun hlo hhi ho => hrun hlo hhi ho _, fun hlo he => hrun hlo hlast he _,
    fun hlo ho => hrun hlo hlast ho _⟩
  case bankData =>
    refine ⟨_, hrun hlo hhi ho _, fun j => ?_⟩
    rw [getElem_poke r.regs d j (BitVec.isLt _), toNat_lowField]
    rfl

end Sys2Proof.Machine
end

section
/-! SUPPORT. The windows of MMC3 (46 R251 to R256): the bank of each 8K program quarter, the register of each character
window after the inversion of the address, and program RAM with its enable and deny bits. -/

namespace Sys2Proof.Machine

/-- Inverting bit 12 of a video address exchanges the two 4K halves. -/
theorem xor_0x1000 {n : Nat} (hn : n ≤ 0x1FFF) : n ^^^ 0x1000 = (n + 0x1000) % 0x2000 := by
  have hlow : (n ^^^ 0x1000) % 2 ^ 12 = n % 2 ^ 12 := by
    rw [Nat.xor_mod_two_pow]
    exact Nat.xor_zero _
  have hhigh : (n ^^^ 0x1000) / 2 ^ 12 = n / 2 ^ 12 ^^^ 1 := Nat.xor_div_two_pow
  have hhalf : n / 2 ^ 12 = 0 ∨ n / 2 ^ 12 = 1 := by omega
  have hflip : n / 2 ^ 12 ^^^ 1 = 1 - n / 2 ^ 12 := by
    obtain h | h := hhalf <;> simp only [h] <;> rfl
  omega

/-- The address with the halves exchanged where `bankSelect` bit 7 asks for it (46 R252). -/
def mmc3ChrAddr (r : Mmc3) (n : Nat) : Nat := if r.bankSelect.getLsbD 7 then (n + 0x1000) % 0x2000 else n

section
variable (c : Cartridge) (r : Mmc3) {n i : Nat}

/-- The bank of each quarter by the count of 16K banks (46 R251). -/
theorem mmc3PrgBank_eq (i : Nat) :
    mmc3PrgBank c r i =
      if i = 0 then (if r.bankSelect.getLsbD 6 then 2 * c.prgBanks - 2 else r.regs[6].toNat)
      else if i = 1 then r.regs[7].toNat
      else if i = 2 then (if r.bankSelect.getLsbD 6 then r.regs[6].toNat else 2 * c.prgBanks - 2)
      else 2 * c.prgBanks - 1 := by
  rw [mmc3PrgBank, c.count8_eq]

/-- The 8K quarter `i` shows its bank. -/
theorem mmc3PrgByte_quarter (hlo : 0x8000 + 8192 * i ≤ n) (hhi : n < 0x8000 + 8192 * (i + 1)) :
    mmc3PrgByte c r n = c.romByte (mmc3PrgBank c r i) 8192 n (0x8000 + 8192 * i) := by
  rw [mmc3PrgByte, quarter_eq hlo hhi]

theorem mmc3ChrBank_eq (hn : n ≤ 0x1FFF) :
    mmc3ChrBank r n =
      if mmc3ChrAddr r n < 0x1000 then
        (pick r.regs (mmc3ChrAddr r n / 2048)).toNat / 2 * 2 + mmc3ChrAddr r n / 1024 % 2
      else (pick r.regs (2 + (mmc3ChrAddr r n - 0x1000) / 1024)).toNat := by
  have haddr : (n ^^^ if r.bankSelect.getLsbD 7 then 0x1000 else 0) = mmc3ChrAddr r n := by
    rw [mmc3ChrAddr]
    split
    · exact xor_0x1000 hn
    · exact Nat.xor_zero n
  have heven (b : Byte) : (b &&& 0xFE).toNat = b.toNat / 2 * 2 := by
    revert b
    decide
  rw [mmc3ChrBank, haddr]
  simp only [heven]

/-- The two 2K windows: bit 0 of their registers is ignored. -/
theorem mmc3ChrBank_2k (hn : n ≤ 0x1FFF) (hi : i < 2) (hlo : 2048 * i ≤ mmc3ChrAddr r n)
    (hhi : mmc3ChrAddr r n < 2048 * (i + 1)) :
    mmc3ChrBank r n = (pick r.regs i).toNat / 2 * 2 + mmc3ChrAddr r n / 1024 % 2 := by
  have hwindow : mmc3ChrAddr r n / 2048 = i := by omega
  rw [mmc3ChrBank_eq r hn, if_pos (by omega), hwindow]

/-- The four 1K windows. -/
theorem mmc3ChrBank_1k (hn : n ≤ 0x1FFF) (hlo : 0x1000 + 1024 * i ≤ mmc3ChrAddr r n)
    (hhi : mmc3ChrAddr r n < 0x1000 + 1024 * (i + 1)) : mmc3ChrBank r n = (pick r.regs (2 + i)).toNat := by
  have hwindow : (mmc3ChrAddr r n - 0x1000) / 1024 = i := by omega
  rw [mmc3ChrBank_eq r hn, if_neg (by omega), hwindow]

theorem mmc3ChrAddr_lt (hn : n ≤ 0x1FFF) : mmc3ChrAddr r n < 0x2000 := by
  rw [mmc3ChrAddr]
  split <;> omega

end

section
variable {s : State} {c : Cartridge} {r : Mmc3} {a : Addr} (hs : s.Serves c) (hm : c.mapper = .mmc3 r)
  (hlo : 0x6000 ≤ a.toNat) (hhi : a.toNat ≤ 0x7FFF)
include hs hm hlo hhi

theorem exec_mmc3RPrgram :
    exec (.mmc3RPrgram a) s = .next
      (if r.ramEnable then
        s.answered (c.prgRam.read (bankOffset 0 8192 a.toNat 0x6000 (s.params.prgRamSize .mmc3)))
      else s.openBus) := by
  rw [exec, execMmc3RPrgram, State.onRow_run hs.1 hs.2 (cpuAddr_none.2 ⟨hlo, hhi⟩) (congrArg asMmc3 hm),
    Cartridge.ram6000_of_mapper hm]
  rfl

theorem exec_mmc3WPrgram (d : Byte) :
    exec (.mmc3WPrgram a d) s = .next
      (if r.ramEnable = true ∧ r.ramDeny = false then
        s.stored { c with
          prgRam := c.prgRam.write (bankOffset 0 8192 a.toNat 0x6000 (s.params.prgRamSize .mmc3)) d }
      else s.errored (.writeProtected a d)) := by
  have hwritable : mmc3RamWritable r = true ↔ r.ramEnable = true ∧ r.ramDeny = false := by
    rw [mmc3RamWritable, Bool.and_eq_true, Bool.not_eq_true']
  rw [exec, execMmc3WPrgram, State.onRow_run hs.1 hs.2 (cpuAddr_none.2 ⟨hlo, hhi⟩) (congrArg asMmc3 hm),
    Cartridge.ram6000_of_mapper hm, State.raise_writeProtected]
  simp only [hwritable]
  rfl

end

/-- Settles O55: each program quarter and character window shows its bank, and the enable and deny bits
decide the RAM window. -/
theorem mmc3Windows : Obligations.Mmc3Windows := by
  intro s c r a d hs hm n rom chr index swap n'
  have hlast : n < 0x10000 := a.isLt
  have hrom {i bank : Nat} (hlo : 0x8000 + 8192 * i ≤ n) (hhi : n < 0x8000 + 8192 * (i + 1))
      (hbank : mmc3PrgBank c r i = bank) : rom bank (0x8000 + 8192 * i) :=
    State.onRow_program hs (congrArg asMmc3 hm) (by omega) (hbank ▸ mmc3PrgByte_quarter c r hlo hhi)
  have hchr {bank : Nat} (ha : n ≤ 0x1FFF) (hbank : mmc3ChrBank r n = bank) : chr bank :=
    State.onRow_chr hs (congrArg asMmc3 hm) ha
      (congrArg (fun b => bankOffset b 1024 n (1024 * (n / 1024)) c.chrLen) hbank)
  refine ⟨fun hlo hhi => hrom (i := 0) hlo hhi (mmc3PrgBank_eq c r 0),
    fun hlo hhi => hrom (i := 1) hlo hhi (mmc3PrgBank_eq c r 1),
    fun hlo hhi => hrom (i := 2) hlo hhi (mmc3PrgBank_eq c r 2),
    fun hlo => hrom (i := 3) hlo hlast (mmc3PrgBank_eq c r 3),
    fun ha hhi => hchr ha (mmc3ChrBank_2k r (i := 0) ha (by decide) (Nat.zero_le _) hhi),
    fun ha hlo hhi => hchr ha (mmc3ChrBank_2k r (i := 1) ha (by decide) hlo hhi),
    fun ha hlo hhi => hchr ha (mmc3ChrBank_1k r (i := 0) ha hlo hhi),
    fun ha hlo hhi => hchr ha (mmc3ChrBank_1k r (i := 1) ha hlo hhi),
    fun ha hlo hhi => hchr ha (mmc3ChrBank_1k r (i := 2) ha hlo hhi),
    fun ha hlo => hchr ha (mmc3ChrBank_1k r (i := 3) ha hlo (mmc3ChrAddr_lt r ha)), fun hlo hhi => ?ram⟩
  case ram =>
    have hread := exec_mmc3RPrgram hs hm hlo hhi
    have hwrite := exec_mmc3WPrgram hs hm hlo hhi d
    refine ⟨fun hon => hread.trans (congrArg _ (if_pos hon)),
      fun hoff => ⟨_, hread.trans (congrArg _ (if_neg (ne_true_of_eq_false hoff)))⟩,
      fun hon hallow => hwrite.trans (congrArg _ (if_pos ⟨hon, hallow⟩)),
      fun hprotect => hwrite.trans (congrArg _ (if_neg fun ⟨hon, hallow⟩ => ?_))⟩
    obtain hoff | hdeny := hprotect
    · exact ne_true_of_eq_false hoff hon
    · exact ne_true_of_eq_false hallow hdeny

end Sys2Proof.Machine
end

section
/-! SUPPORT. The scanline counter of MMC3 (46 R254). -/

namespace Sys2Proof.Machine

theorem visibleScanline_iff {p : Params} {sl : BitVec 16} :
    visibleScanline p sl = true ↔ p.visibleFirst ≤ sl.toInt ∧ sl.toInt ≤ p.visibleLast := by
  rw [visibleScanline, Bool.and_eq_true, decide_eq_true_eq, decide_eq_true_eq]

theorem mmc3Clock_iff {p : Params} {sl cy : BitVec 16} {bg sp : Bool} :
    mmc3Clock p sl cy bg sp = true ↔
      cy.toNat = p.mmc3IrqCycle ∧ (bg = true ∨ sp = true) ∧
        ((p.visibleFirst ≤ sl.toInt ∧ sl.toInt ≤ p.visibleLast) ∨ sl.toInt = p.prerenderScanline) := by
  rw [mmc3Clock, Bool.and_eq_true, Bool.and_eq_true, Bool.or_eq_true, Bool.or_eq_true, beq_iff_eq, decide_eq_true_eq,
    visibleScanline_iff, and_assoc]

section
variable {r : Mmc3}

theorem mmc3Count_reload (h : r.irqCounter = 0 ∨ r.irqReload = true) :
    mmc3Count r = { r with
      irqCounter := r.irqLatch
      irqReload := false
      irqPending := r.irqPending || (decide (r.irqLatch = 0) && r.irqEnabled) } := by
  rw [mmc3Count, if_pos h, if_pos h]
  rfl

/-- Counting down reaches 0 from 1. -/
theorem mmc3Count_down (hcounter : r.irqCounter ≠ 0) (hreload : r.irqReload = false) :
    mmc3Count r = { r with
      irqCounter := r.irqCounter - 1
      irqPending := r.irqPending || (decide (r.irqCounter = 1) && r.irqEnabled) } := by
  have hkeep : ¬(r.irqCounter = 0 ∨ r.irqReload = true) :=
    not_or.2 ⟨hcounter, ne_true_of_eq_false hreload⟩
  have hzero : (r.irqCounter - 1 == 0) = decide (r.irqCounter = 1) := decide_eq_decide.2 sub_eq_zero
  rw [mmc3Count, if_neg hkeep, if_neg hkeep, hzero]

end

theorem exec_mmc3Vc {s : State} {c : Cartridge} {r : Mmc3} (hs : s.Serves c) (hm : c.mapper = .mmc3 r)
    (sl cy : BitVec 16) (bg sp : Bool) :
    exec (.mmc3Vc sl cy bg sp) s = .next { s with
      cart := some { c with mapper := .mmc3 (if mmc3Clock s.params sl cy bg sp then mmc3Count r else r) }
      result := .nothing } :=
  State.onRow_run hs.1 hs.2 rfl (congrArg asMmc3 hm)

/-- Settles O56: the counter steps exactly at a clock, by reloading or by counting down. -/
theorem mmc3Cycle : Obligations.Mmc3Cycle := by
  intro s c r sl cy bg sp hs hm p clock becomes
  have hbecomes {q : Mmc3} (hq : (if mmc3Clock p sl cy bg sp then mmc3Count r else r) = q) : becomes q := by
    subst hq
    exact exec_mmc3Vc hs hm sl cy bg sp
  have hclock : mmc3Clock p sl cy bg sp = true ↔ clock := mmc3Clock_iff
  refine ⟨fun hno => hbecomes (if_neg (mt hclock.1 hno)), fun hyes hreload => hbecomes ?reload,
    fun hyes hcounter hreload => hbecomes ?down⟩
  case reload => exact (if_pos (hclock.2 hyes)).trans (mmc3Count_reload hreload)
  case down => exact (if_pos (hclock.2 hyes)).trans (mmc3Count_down hcounter hreload)

end Sys2Proof.Machine
end

section
/-! SUPPORT. Errors are precise (60 R262): every instruction answers a result that is no error, or takes an error as
`State.raise` does and does nothing else. Said once per kind of transaction. -/

namespace Sys2Proof.Machine

def Result.isError : Result → Bool
  | .error _ => true
  | _ => false

/-- The errors that a rule raises: all but `InvalidModeError` (60 R263). -/
def Error.raisable : Error → Bool
  | .invalidMode _ _ => false
  | _ => true

/-- The transaction answered no error, or did nothing but take one. -/
def State.Precise (s t : State) : Prop := t.result.isError = false ∨ ∃ e : Error, e.raisable = true ∧ t = s.raise e

/-- A precise transaction whose result is an error has taken that error. -/
theorem State.Precise.raised {s t : State} {e : Error} (h : s.Precise t) (he : t.result = .error e) :
    e.raisable = true ∧ t = s.raise e := by
  obtain hno | ⟨e', hr, rfl⟩ := h
  · rw [he] at hno
    cases hno
  · cases he
    exact ⟨hr, rfl⟩

theorem State.Precise.raise (s : State) {e : Error} (he : e.raisable = true) : s.Precise (s.raise e) := .inr ⟨e, he, rfl⟩

theorem State.Precise.ite {s t u : State} {p : Prop} [Decidable p] (ht : s.Precise t) (hu : s.Precise u) :
    s.Precise (if p then t else u) := by
  split
  · exact ht
  · exact hu

theorem State.Precise.chrWrite (s : State) (c : Cartridge) (a : Addr) (off : Nat) (d : Byte) :
    s.Precise (s.chrWrite c a off d) :=
  .ite (.inl rfl) (.raise s rfl)

section
variable {s t : State} {i : Instr}

theorem State.Reads.precise (h : s.Reads t) : s.Precise t := by
  obtain ⟨b, hb⟩ := h.result
  exact .inl (congrArg Result.isError hb)

theorem State.ReadsLatching.precise (h : s.ReadsLatching t) : s.Precise t := by
  obtain ⟨c, m, b, -, -, rfl⟩ := h
  exact .inl rfl

theorem State.Writes.precise (h : s.Writes i t) : s.Precise t := by
  obtain hok | ⟨a, d, -, rfl | rfl⟩ := h
  · exact .inl (congrArg Result.isError hok)
  · exact s.raise_illegalWrite a d ▸ .raise s rfl
  · exact s.raise_writeProtected a d ▸ .raise s rfl

/-- A row is precise where its rule is. -/
theorem State.onRow_precise {α : Type} {addr : Option Refusal} {regs : Mapper → Option α} {k : Cartridge → α → State}
    (h : s.onRow addr regs k = .next t) (hk : ∀ c x, s.Precise (k c x)) : s.Precise t := by
  obtain ⟨-, -, c, x, -, -, rfl⟩ := State.onRow_next.1 h
  exact hk c x

theorem exec_read_precise (hf : readFormat i.format = true) (h : exec i s = .next t) : s.Precise t := by
  obtain hr | ⟨-, hl⟩ := exec_read_cases hf h
  · exact hr.precise
  · exact hl.precise

theorem exec_busWrite_precise (hf : i.format = .busWrite) (h : exec i s = .next t) : s.Precise t := by
  cases i
  case busWLocal =>
    obtain ⟨-, -, rfl⟩ := State.onLocal_next.1 h
    exact .inl rfl
  case busWCart =>
    obtain ⟨i, hi, hexec⟩ := State.forward_exec (.inr rfl) h
    exact (exec_cpuWrite_writes hi hexec).precise
  all_goals cases hf

theorem exec_vidWrite_precise (hf : i.format = .vidWrite) (h : exec i s = .next t) : s.Precise t := by
  cases i
  case m15VwChr => exact State.onRow_precise h fun _ _ => .ite (.raise s rfl) (.chrWrite s _ _ _ _)
  case genVwChr8fixed | mmc5VwChr | cnromVwChr | cdVwChr | cpromVwChr | gxVwChr | mmc1VwChr | mmc24VwChr | mmc3VwChr =>
    exact State.onRow_precise h fun _ _ => .chrWrite s _ _ _ _
  all_goals cases hf

theorem exec_videoCycle_precise (hf : i.format = .videoCycle) (h : exec i s = .next t) : s.Precise t := by
  cases i
  case genVcNop | mmc5Vc | mmc3Vc => exact State.onRow_precise h fun _ _ => .inl rfl
  all_goals cases hf

/-- The checks of `LOAD` fail with a load error (40 R108). -/
theorem checkImage_error_raisable {p : Params} {image : List Byte} {e : Error} (h : checkImage p image = .error e) :
    e.raisable = true := by
  unfold checkImage at h
  split_ifs at h
  case neg =>
    cases hv : p.variantOf (imageMapperId image) with
    | none =>
      rw [hv] at h
      cases h
      rfl
    | some v =>
      rw [hv] at h
      cases h
  all_goals
    cases h
    rfl

theorem exec_load_precise {image : List Byte} (h : exec (.load image) s = .next t) : s.Precise t := by
  obtain ⟨-, rfl⟩ := State.onHost_next.1 h
  cases hcheck : checkImage s.params image with
  | error e => exact .raise s (checkImage_error_raisable hcheck)
  | ok v => exact .inl rfl

theorem exec_host_precise (hf : i.format.port = .host) (h : exec i s = .next t) : s.Precise t := by
  cases i
  case load => exact exec_load_precise h
  case mirror =>
    obtain ⟨-, rfl⟩ := State.onHost_next.1 h
    exact .ite (.raise s rfl) (.inl rfl)
  case resetcfg | wipe | unload =>
    obtain ⟨-, rfl⟩ := State.onHost_next.1 h
    exact .inl rfl
  case saveload | savedump =>
    obtain ⟨-, c, x, -, -, rfl⟩ := State.onCart_next.1 h
    exact .inl rfl
  case name =>
    rw [exec, execName] at h
    obtain ⟨-, c, x, -, -, rfl⟩ := State.onCart_next.1 h
    exact .inl rfl
  all_goals cases hf

/-- Every instruction is precise, by its format. -/
theorem exec_precise (h : exec i s = .next t) : s.Precise t := by
  cases hf : i.format
  case busRead | vidRead | cpuRead => exact exec_read_precise (congrArg readFormat hf) h
  case busWrite => exact exec_busWrite_precise hf h
  case cpuWrite => exact (exec_cpuWrite_writes hf h).precise
  case vidWrite => exact exec_vidWrite_precise hf h
  case videoCycle => exact exec_videoCycle_precise hf h
  all_goals exact exec_host_precise (congrArg Format.port hf) h

/-- An instruction runs only with no fault recorded (60 R267). -/
theorem exec_next_unfaulted (h : exec i s = .next t) : s.fault = none := by
  cases hf : s.fault with
  | none => rfl
  | some e => cases (exec_faulted hf i).symm.trans h

end

/-- Settles O58: the error was taken by `State.raise` with no fault recorded before, so what `fault` holds afterwards is
what the policy records. -/
theorem errorsArePrecise : Obligations.ErrorsArePrecise := by
  intro i s t e h he
  have hf : s.fault = none := exec_next_unfaulted h
  obtain ⟨hraisable, rfl⟩ := (exec_precise h).raised he
  refine ⟨rfl, ?mode, ?access, ?other⟩
  case mode =>
    rintro name value rfl
    cases hraisable
  case access =>
    rw [State.raise_fault, hf]
    rintro (⟨a, d, rfl⟩ | ⟨a, d, rfl⟩) <;> cases s.params.policy <;> rfl
  case other => rintro (⟨reason, rfl⟩ | ⟨id, rfl⟩ | ⟨n, rfl⟩) <;> exact hf

end Sys2Proof.Machine
end

section
/-! SUPPORT. The operand bytes of a request (log 1): a field and its bytes determine each other. -/

namespace Sys2Proof

theorem fieldOf16_toNat (lo hi : Byte) : (fieldOf16 lo hi).toNat = hi.toNat * 256 + lo.toNat := by
  rw [fieldOf16, BitVec.toNat_append, ← Nat.shiftLeft_add_eq_or_of_lt lo.isLt, Nat.shiftLeft_eq]

theorem byteOf_toNat {w : Nat} (x : BitVec w) (k : Nat) : (byteOf x k).toNat = x.toNat / 2 ^ (8 * k) % 256 := by
  rw [byteOf, BitVec.toNat_setWidth, BitVec.toNat_ushiftRight, Nat.shiftRight_eq_div_pow]

theorem fieldOf16_byteOf (x : BitVec 16) : fieldOf16 (byteOf x 0) (byteOf x 1) = x := by
  have hx := x.isLt
  apply BitVec.eq_of_toNat_eq
  rw [fieldOf16_toNat, byteOf_toNat, byteOf_toNat]
  omega

theorem bytesOf16_fieldOf16 (lo hi : Byte) : bytesOf16 (fieldOf16 lo hi) = [lo, hi] := by
  have hlo := lo.isLt
  have hhi := hi.isLt
  have h0 : byteOf (fieldOf16 lo hi) 0 = lo := by
    apply BitVec.eq_of_toNat_eq
    rw [byteOf_toNat, fieldOf16_toNat]
    omega
  have h1 : byteOf (fieldOf16 lo hi) 1 = hi := by
    apply BitVec.eq_of_toNat_eq
    rw [byteOf_toNat, fieldOf16_toNat]
    omega
  rw [bytesOf16, h0, h1]

theorem bytesOf16_inj {x y : BitVec 16} (h : bytesOf16 x = bytesOf16 y) : x = y := by
  obtain ⟨h0, h1, -⟩ : byteOf x 0 = byteOf y 0 ∧ byteOf x 1 = byteOf y 1 ∧ True := by simpa [bytesOf16] using h
  rw [← fieldOf16_byteOf x, ← fieldOf16_byteOf y, h0, h1]

/-- A field of at most 65536 is what its three bytes give. -/
theorem fieldOf17_byteOf {x : BitVec 17} (hx : x.toNat ≤ 65536) :
    fieldOf17 (byteOf x 0) (byteOf x 1) (byteOf x 2) = some x := by
  have hn : (byteOf x 0).toNat + 256 * (byteOf x 1).toNat + 65536 * (byteOf x 2).toNat = x.toNat := by
    rw [byteOf_toNat, byteOf_toNat, byteOf_toNat]
    omega
  simp only [fieldOf17, hn, if_pos hx, BitVec.ofNat_toNat, BitVec.setWidth_eq]

/-- The bytes of a field that three bytes give are those bytes. -/
theorem fieldOf17_some {b0 b1 b2 : Byte} {x : BitVec 17} (h : fieldOf17 b0 b1 b2 = some x) :
    x.toNat ≤ 65536 ∧ bytesOf17 x = [b0, b1, b2] := by
  have h0 := b0.isLt
  have h1 := b1.isLt
  have h2 := b2.isLt
  obtain ⟨hle, hx⟩ := Option.ite_none_right_eq_some.1 h
  have hn : x.toNat = b0.toNat + 256 * b1.toNat + 65536 * b2.toNat := by
    rw [← Option.some.inj hx, BitVec.toNat_ofNat, Nat.mod_eq_of_lt (by omega)]
  have hbyte {k : Nat} {b : Byte} (hb : x.toNat / 2 ^ (8 * k) % 256 = b.toNat) : byteOf x k = b :=
    BitVec.eq_of_toNat_eq ((byteOf_toNat x k).trans hb)
  refine ⟨hn ▸ hle, ?_⟩
  rw [bytesOf17, hbyte (b := b0) (by omega), hbyte (b := b1) (by omega), hbyte (b := b2) (by omega)]

theorem byteOfFlags_bits (bg sp : Bool) :
    (byteOfFlags bg sp).toNat < 4 ∧ (byteOfFlags bg sp).getLsbD 0 = bg ∧ (byteOfFlags bg sp).getLsbD 1 = sp := by
  revert bg sp
  decide

theorem byteOfFlags_of_lt {flags : Byte} (h : flags.toNat < 4) :
    byteOfFlags (flags.getLsbD 0) (flags.getLsbD 1) = flags := by
  revert flags
  decide

end Sys2Proof
end

section
/-! SUPPORT. The opcode table as such: its mask test (30 R82, R89) and the disjointness of the rows of one variant. Both
are facts about literal rows, evaluated once over the table; the general part is about one mask or one pair of rows. -/

namespace Sys2Proof

/-- The mask that keeps all but the low `k` bits. -/
def highMask (k : Nat) : Addr := BitVec.allOnes 16 <<< k

theorem and_highMask_toNat (a : Addr) (k : Nat) : (a &&& highMask k).toNat = a.toNat / 2 ^ k * 2 ^ k := by
  have hle : a.toNat / 2 ^ k * 2 ^ k < 2 ^ 16 := (Nat.div_mul_le_self _ _).trans_lt a.isLt
  rw [highMask, ← BitVec.shiftLeft_ushiftRight, BitVec.toNat_shiftLeft, BitVec.toNat_ushiftRight,
    Nat.shiftRight_eq_div_pow, Nat.shiftLeft_eq, Nat.mod_eq_of_lt hle]

/-- The mask that also keeps bit 0 tests the parity (30 R89). -/
theorem and_highMask_or_one_toNat (a : Addr) {k : Nat} (hk : 1 ≤ k) :
    (a &&& (highMask k ||| 1)).toNat = a.toNat / 2 ^ k * 2 ^ k + a.toNat % 2 := by
  have hlow : a.toNat % 2 < 2 ^ k := (Nat.mod_lt _ Nat.two_pos).trans_le (Nat.pow_le_pow_right Nat.two_pos hk)
  have hone : (a &&& 1).toNat = a.toNat % 2 := Nat.and_one_is_mod _
  rw [BitVec.and_or_distrib_left, BitVec.toNat_or, and_highMask_toNat, hone, Nat.mul_comm,
    Nat.two_pow_add_eq_or_of_lt hlow]

/-- The row's range is the aligned block of `2 ^ k` addresses that its mask and match name, with bit 0 of both for a row
that tests the parity. -/
def Row.alignedBlock (r : Row) (k : Nat) : Bool :=
  decide (r.lo % 2 ^ k = 0) && decide (r.hi + 1 = r.lo + 2 ^ k) &&
    match r.parity with
    | none => decide (r.mask = highMask k ∧ r.matchBits.toNat = r.lo)
    | some p => decide (1 ≤ k ∧ r.mask = highMask k ||| 1 ∧ r.matchBits.toNat = r.lo + p ∧ p < 2)

theorem within_iff {lo hi : Nat} {a : Addr} : within lo hi a = true ↔ lo ≤ a.toNat ∧ a.toNat ≤ hi := by
  rw [within, Bool.and_eq_true, decide_eq_true_eq, decide_eq_true_eq]

/-- An address lies in an aligned block of `2 ^ k` when rounding it down gives the block's first address. -/
theorem within_alignedBlock {lo hi k : Nat} {a : Addr} (hlo : lo % 2 ^ k = 0) (hhi : hi + 1 = lo + 2 ^ k) :
    within lo hi a = true ↔ a.toNat / 2 ^ k * 2 ^ k = lo := by
  have hpos : 0 < 2 ^ k := Nat.two_pow_pos k
  have hround := Nat.div_add_mod a.toNat (2 ^ k)
  have hmod := Nat.mod_lt a.toNat hpos
  obtain ⟨n, rfl⟩ := Nat.dvd_of_mod_eq_zero hlo
  rw [within_iff]
  constructor
  · rintro ⟨h1, h2⟩
    have hdiv : a.toNat / 2 ^ k = n := Nat.div_eq_of_lt_le (by linarith) (by linarith)
    rw [hdiv, Nat.mul_comm]
  · intro h
    rw [Nat.mul_comm] at h
    omega

/-- The mask test of a row that is an aligned block is its range test. -/
theorem coversRow_iff_mask {r : Row} {k : Nat} (hr : r.alignedBlock k = true) (a : Addr) :
    coversRow r a = true ↔ a &&& r.mask = r.matchBits := by
  rw [Row.alignedBlock, Bool.and_eq_true, Bool.and_eq_true, decide_eq_true_eq, decide_eq_true_eq] at hr
  obtain ⟨⟨hlo, hhi⟩, hmask⟩ := hr
  have hblock := within_alignedBlock (a := a) hlo hhi
  rw [← BitVec.toNat_inj, coversRow, Bool.and_eq_true, hblock]
  cases hp : r.parity with
  | none =>
    rw [hp] at hmask
    obtain ⟨hm, hmatch⟩ := of_decide_eq_true hmask
    rw [hm, and_highMask_toNat, hmatch]
    simp
  | some p =>
    rw [hp] at hmask
    obtain ⟨hk, hm, hmatch, hp2⟩ := of_decide_eq_true hmask
    have heven : 2 ∣ 2 ^ k := dvd_pow_self 2 (Nat.one_le_iff_ne_zero.1 hk)
    rw [hm, and_highMask_or_one_toNat a hk, hmatch, beq_iff_eq]
    have h1 : 2 ∣ a.toNat / 2 ^ k * 2 ^ k := heven.mul_left _
    have h2 : 2 ∣ r.lo := heven.trans (Nat.dvd_of_mod_eq_zero hlo)
    omega

/-- Every row of the table is an aligned block. -/
theorem rowsOf_alignedBlock (f : Format) : ∀ r ∈ rowsOf f, ∃ k ≤ 15, r.alignedBlock k = true := by
  cases f <;> decide

/-- Settles O4: each row is an aligned block, whose mask test rounds the address down. -/
theorem maskIsRange : Obligations.MaskIsRange := by
  intro f r hr a
  obtain ⟨k, -, hk⟩ := rowsOf_alignedBlock f r hr
  exact coversRow_iff_mask hk a

/-! ## Disjointness -/

/-- No variant and address select both rows: no common variant, or ranges or parities that exclude each other. -/
def Row.apart (r₁ r₂ : Row) : Bool :=
  (r₁.variants.all fun v => !r₂.variants.contains v) || decide (r₁.hi < r₂.lo) || decide (r₂.hi < r₁.lo) ||
    match r₁.parity, r₂.parity with
    | some p, some q => p != q
    | _, _ => false

theorem coversRow_range {r : Row} {a : Addr} (h : coversRow r a = true) : r.lo ≤ a.toNat ∧ a.toNat ≤ r.hi := by
  rw [coversRow, Bool.and_eq_true] at h
  exact within_iff.1 h.1

theorem coversRow_parity {r : Row} {a : Addr} {p : Nat} (h : coversRow r a = true) (hp : r.parity = some p) :
    a.toNat % 2 = p := by
  rw [coversRow, Bool.and_eq_true, hp] at h
  exact beq_iff_eq.1 h.2

theorem not_selects_both {r₁ r₂ : Row} (h : r₁.apart r₂ = true) (v : Variant) (a : Addr) :
    ¬(selectsRow v a r₁ = true ∧ selectsRow v a r₂ = true) := by
  rintro ⟨h₁, h₂⟩
  obtain ⟨hv₁, hc₁⟩ := Machine.selectsRow_iff.1 h₁
  obtain ⟨hv₂, hc₂⟩ := Machine.selectsRow_iff.1 h₂
  have hr₁ := coversRow_range hc₁
  have hr₂ := coversRow_range hc₂
  simp only [Row.apart, Bool.or_eq_true, decide_eq_true_eq, List.all_eq_true] at h
  obtain ((hvs | hlt) | hlt) | hpar := h
  · have hno := hvs v (List.contains_iff_mem.1 hv₁)
    rw [hv₂] at hno
    cases hno
  · omega
  · omega
  · split at hpar
    case h_1 p q hp hq =>
      exact bne_iff_ne.1 hpar ((coversRow_parity hc₁ hp).symm.trans (coversRow_parity hc₂ hq))
    case h_2 => cases hpar

theorem rowsOf_apart (f : Format) : (rowsOf f).Pairwise fun r₁ r₂ => r₁.apart r₂ = true := by
  cases f <;> decide

/-- Settles O3: the rows of each format are pairwise apart. -/
theorem rowsDisjoint : Obligations.RowsDisjoint :=
  fun f => (rowsOf_apart f).imp fun h => not_selects_both h

end Sys2Proof
end

section
/-! SUPPORT. The request of a mapper row (30 R73, R82): the row that the decode selects is encoded by the transaction's
own request, and a well-formed row of the variant is the one that the decode selects at the address of its request. -/

namespace Sys2Proof.Machine

/-- The request of a mapper transaction: its address, and its data for a write. -/
def mapperRequest (f : Format) (a : Addr) (d : Byte) : Request :=
  if readFormat f then addrRequest f a else dataRequest f a d

theorem mapperRequest_addr (f : Format) (a : Addr) (d : Byte) : (mapperRequest f a d).addr = a := by
  rw [mapperRequest]
  split <;> exact fieldOf16_byteOf a

theorem dataRequest_inj {f : Format} {a a' : Addr} {d d' : Byte} (h : dataRequest f a d = dataRequest f a' d') :
    a = a' ∧ d = d' := by
  have hops := congrArg Request.operands h
  obtain ⟨ha, hd⟩ := List.append_inj' hops rfl
  exact ⟨bytesOf16_inj ha, List.singleton_inj.1 hd⟩

end Sys2Proof.Machine

namespace Sys2Proof

/-- The address that the instruction of a row at `a` carries: its own operands for a register row, which keeps only the
index of a bank register (43 R165, R166). -/
def Row.carried (r : Row) (a : Addr) : Addr :=
  if r.atRegister then
    if r.hi = r.lo + 7 then r.matchBits ||| (a.extractLsb' 0 3).setWidth 16
    else if r.hi = r.lo + 3 then r.matchBits ||| (a.extractLsb' 0 2).setWidth 16
    else r.matchBits
  else a

end Sys2Proof

namespace Sys2Proof.Machine

section
variable {f : Format} {r : Row} (hr : r ∈ rowsOf f) (a : Addr) (d : Byte)
include hr

theorem rowsOf_encode : encode (r.build a d) = mapperRequest f (r.carried a) d := by
  have hall : (rowsOf f).map (fun r => encode (r.build a d)) =
      (rowsOf f).map fun r => mapperRequest f (r.carried a) d := by
    cases f <;> rfl
  exact List.map_inj_left.1 hall r hr

end

end Sys2Proof.Machine
end

section
/-! SUPPORT. The row that the decode selects at a request: its operands are in range, its variant decodes it, it is the
only one. -/

namespace Sys2Proof

/-- An address is its high bits and its low field. -/
theorem highMask_or_lowField (a : Addr) {k : Nat} (hk : k ≤ 16) :
    a &&& highMask k ||| (a.extractLsb' 0 k).setWidth 16 = a := by
  have hlow : a.toNat % 2 ^ k < 2 ^ k := Nat.mod_lt _ (Nat.two_pow_pos k)
  have hfit : a.toNat % 2 ^ k < 2 ^ 16 := hlow.trans_le (Nat.pow_le_pow_right Nat.two_pos hk)
  apply BitVec.eq_of_toNat_eq
  rw [BitVec.toNat_or, and_highMask_toNat, BitVec.toNat_setWidth, Machine.toNat_lowField, Nat.mod_eq_of_lt hfit,
    Nat.mul_comm, ← Nat.two_pow_add_eq_or_of_lt hlow, Nat.div_add_mod]

/-- A register row is one address, or a block of 8 or 4 with the register's index in its low bits. -/
theorem rowsOf_registers (f : Format) : ∀ r ∈ rowsOf f, r.atRegister = true →
    (r.hi = r.lo + 7 ∧ r.mask = highMask 3) ∨ (r.hi = r.lo + 3 ∧ r.mask = highMask 2) ∨
      (r.hi = r.lo ∧ r.mask = highMask 0) := by
  cases f <;> decide

/-- At an address that the row covers its instruction carries that address. -/
theorem Row.carried_of_covers {f : Format} {r : Row} (hr : r ∈ rowsOf f) {a : Addr} (hcov : coversRow r a = true) :
    r.carried a = a := by
  have hmatch : a &&& r.mask = r.matchBits := (maskIsRange f r hr a).1 hcov
  rw [Row.carried]
  split
  case isFalse => rfl
  case isTrue hreg =>
    obtain ⟨hhi, hmask⟩ | ⟨hhi, hmask⟩ | ⟨hhi, hmask⟩ := rowsOf_registers f r hr hreg <;> rw [← hmatch, hmask, hhi]
    · exact (if_pos rfl).trans (highMask_or_lowField a (by decide))
    · exact (if_neg (by omega)).trans ((if_pos rfl).trans (highMask_or_lowField a (by decide)))
    · exact (if_neg (by omega)).trans ((if_neg (by omega)).trans (BitVec.and_allOnes))

end Sys2Proof

namespace Sys2Proof.Machine

section
variable {p : Params} {v : Variant} {f : Format} {a : Addr} {d : Byte} {i : Instr} (h : mapperRow p v f a d = some i)
include h

/-- The selected row is encoded by the transaction's own request. -/
theorem mapperRow_encode : encode i = mapperRequest f a d := by
  obtain ⟨-, ⟨r, hr, hsel, rfl⟩ | ⟨-, hdef⟩⟩ := mapperRow_cases h
  · rw [rowsOf_encode hr, Row.carried_of_covers hr (selectsRow_iff.1 hsel).2]
  · obtain ⟨rfl, rfl⟩ | ⟨rfl, rfl⟩ := defaultRow_cases hdef <;> rfl

/-- The selected row has its operands in range. -/
theorem mapperRow_wf : i.wf p = true := by
  obtain ⟨hbelow, ⟨r, hr, hsel, rfl⟩ | ⟨-, hdef⟩⟩ := mapperRow_cases h
  · exact rowsOf_wf hr a d p (selectsRow_iff.1 hsel).2
  · obtain ⟨rfl, rfl⟩ | ⟨rfl, rfl⟩ := defaultRow_cases hdef <;>
      exact within_iff.2 ⟨Nat.not_lt.1 (of_decide_eq_false hbelow), Nat.le_of_lt_succ a.isLt⟩

end

/-- A row but a default one is decoded by a variant of its own at an address that the mapper receives. -/
theorem decodesFor_of_isDefault {p : Params} {v : Variant} {i : Instr} (hdef : i.isDefault = false) :
    decodesFor p v i = (i.variants.isEmpty || i.variants.contains v && !belowCart p i.format (encode i).addr) := by
  cases i
  case genRUnmapped | genWUnmapped => cases hdef
  all_goals rfl

theorem mapperRow_decodesFor {p : Params} {v : Variant} {f : Format} {a : Addr} {d : Byte} {i : Instr}
    (h : mapperRow p v f a d = some i) : decodesFor p v i = true := by
  obtain ⟨hbelow, ⟨r, hr, hsel, hi⟩ | ⟨hrow, hdef⟩⟩ := mapperRow_cases h
  · have hnodef : i.isDefault = false := hi ▸ rowsOf_isDefault hr a d
    rw [decodesFor_of_isDefault hnodef, mapperRow_variants h, mapperRow_format h, mapperRow_encode h,
      mapperRequest_addr, hbelow]
    exact Bool.or_true _
  · obtain ⟨rfl, rfl⟩ | ⟨rfl, rfl⟩ := defaultRow_cases hdef <;> exact Option.isNone_iff_eq_none.2 hrow

/-- The row selected at an address is the only one of the variant and format that covers it. -/
theorem findRow_of_mem {f : Format} {r : Row} (hr : r ∈ rowsOf f) {v : Variant} {a : Addr}
    (hsel : selectsRow v a r = true) : findRow v f a = some r := by
  cases hfind : findRow v f a with
  | none => exact absurd hsel (List.find?_eq_none.1 hfind r hr)
  | some r' =>
    have hsymm : Std.Symm fun r₁ r₂ : Row =>
        ∀ (v : Variant) (a : Addr), ¬(selectsRow v a r₁ = true ∧ selectsRow v a r₂ = true) :=
      ⟨fun _ _ h v a => mt And.symm (h v a)⟩
    by_contra hne
    have hr' : r' ∈ rowsOf f := List.mem_of_find?_eq_some hfind
    exact (rowsDisjoint f).forall hr hr' (fun h => hne (congrArg some h.symm)) v a ⟨hsel, List.find?_some hfind⟩

/-- The table row that builds the instruction. -/
def tableRow (i : Instr) : Option Row := (rowsOf i.format).find? fun r => (r.build 0 0).ctorIdx == i.ctorIdx

theorem tableRow_mem {i : Instr} {r : Row} (h : tableRow i = some r) : r ∈ rowsOf i.format :=
  List.mem_of_find?_eq_some h

end Sys2Proof.Machine
end

section
/-! SUPPORT. Every well-formed row of the table is given by its row at the address of its request. -/

namespace Sys2Proof.Machine

/-- The row `r` gives the instruction at the address `a` with the data `d`, which are those of its request. -/
structure RowGives (r : Row) (i : Instr) (a : Addr) (d : Byte) : Prop where
  mem : r ∈ rowsOf i.format
  request : encode i = mapperRequest i.format a d
  build : r.build a d = i
  covers : coversRow r a = true
  noData : readFormat i.format = true → d = 0

/-- Outside the registers the operand range of 30 R82 is the row's address test. -/
theorem rowGives_of_wf {p : Params} {i : Instr} {r : Row} {a : Addr} {d : Byte} (hrow : tableRow i = some r)
    (hbuild : r.build a d = i) (hreq : encode i = mapperRequest i.format a d) (hreg : r.atRegister = false)
    (hdata : readFormat i.format = true → d = 0) (hwf : i.wf p = true) : RowGives r i a d := by
  refine ⟨tableRow_mem hrow, hreq, hbuild, ?_, hdata⟩
  have hrange := rowsOf_wf_eq (tableRow_mem hrow) a d p
  rwa [hbuild, hwf, hreg, Bool.false_or, Row.inRange_eq_coversRow, eq_comm] at hrange

/-- The index of a bank register of set A lies in the low bits of its address (43 R165). -/
theorem mmc5WChra_index (i : BitVec 3) : ((0x5120 ||| i.setWidth 16 : Addr).extractLsb' 0 3) = i := by
  revert i
  decide

/-- The index of a bank register of set B lies in the low bits of its address (43 R166). -/
theorem mmc5WChrb_index (i : BitVec 2) : ((0x5128 ||| i.setWidth 16 : Addr).extractLsb' 0 2) = i := by
  revert i
  decide

theorem mmc5WChra_covered (i : BitVec 3) : within 0x5120 0x5127 (0x5120 ||| i.setWidth 16) = true := by
  revert i
  decide

theorem mmc5WChrb_covered (i : BitVec 2) : within 0x5128 0x512B (0x5128 ||| i.setWidth 16) = true := by
  revert i
  decide

/-- Every well-formed row of the table is given by the table at the address of its request. -/
theorem exists_rowGives {p : Params} {i : Instr} (hrows : rowsOf i.format ≠ []) (hdef : i.isDefault = false)
    (hwf : i.wf p = true) : ∃ r a d, RowGives r i a d := by
  cases i
  case busRLocal | busWLocal | busRCart | busWCart | mirror | resetcfg | wipe | load | unload | saveload | savedump |
      name | genVcNop | mmc5Vc | mmc3Vc => exact absurd rfl hrows
  case genRUnmapped | genWUnmapped => cases hdef
  case mmc5WChra i d =>
    exact ⟨_, _, d, tableRow_mem rfl, rfl, congrArg (Instr.mmc5WChra · d) (mmc5WChra_index i),
      (Bool.and_true _).trans (mmc5WChra_covered i), nofun⟩
  case mmc5WChrb i d =>
    exact ⟨_, _, d, tableRow_mem rfl, rfl, congrArg (Instr.mmc5WChrb · d) (mmc5WChrb_index i),
      (Bool.and_true _).trans (mmc5WChrb_covered i), nofun⟩
  case mmc5WPrgmode | mmc5WChrmode | mmc5WProtect1 | mmc5WProtect2 | mmc5WExrammode | mmc5WNtmap | mmc5WFilltile |
      mmc5WFillattr | mmc5WPrgrambank | mmc5WPrgbank0 | mmc5WPrgbank1 | mmc5WPrgbank2 | mmc5WPrgbank3 | mmc5WChrupper |
      mmc5WMult1 | mmc5WMult2 =>
    exact ⟨_, _, _, tableRow_mem rfl, rfl, rfl, rfl, nofun⟩
  case mmc5RProdlo | mmc5RProdhi => exact ⟨_, _, 0, tableRow_mem rfl, rfl, rfl, rfl, fun _ => rfl⟩
  case genRPrgram6000 | genVrChr8fixed | mmc5RExram | mmc5RPrgram6000 | mmc5RPrg | mmc5VrChr | nromRPrg | uxromRPrg |
      cnromVrChr | axromRPrg | cdRPrg | cdVrChr | cpromVrChr | m15RPrg | gxRPrg | gxVrChr | c71RPrg | mmc1RPrg |
      mmc1RPrgram | mmc1VrChr | mmc2RPrg | mmc4RPrg | mmc2VrChr | mmc4VrChr | mmc3RPrgram | mmc3RPrg | mmc3VrChr =>
    exact ⟨_, _, 0, rowGives_of_wf rfl rfl rfl rfl (fun _ => rfl) hwf⟩
  all_goals exact ⟨_, _, _, rowGives_of_wf rfl rfl rfl rfl nofun hwf⟩

end Sys2Proof.Machine
end

section
/-! SUPPORT. Decoding an encoded instruction: a table row, a default row, a bus row and a host row. -/

namespace Sys2Proof.Machine

/-- Every row of the video port covers the pattern space and nothing else (30 R85). -/
theorem rowsOf_video {f : Format} (hf : f.port = .video) :
    ∀ r ∈ rowsOf f, r.lo = 0 ∧ r.hi = 0x1FFF ∧ r.parity = none := by
  cases f
  case vidRead | vidWrite => decide
  case videoCycle => exact nofun
  all_goals cases hf

/-- A mapper transaction decodes to the row that its variant selects at its address. -/
theorem decode_mapperRequest {p : Params} {w : Variant} {f : Format} {a : Addr} {d : Byte} (hrows : rowsOf f ≠ [])
    (hdata : readFormat f = true → d = 0) (haddr : f.port = .video → a.toNat ≤ 0x1FFF) :
    decode p (some w) (mapperRequest f a d) = rowOrError (mapperRow p w f a d) := by
  have ha : fieldOf16 (byteOf a 0) (byteOf a 1) = a := fieldOf16_byteOf a
  cases f
  case cpuRead =>
    rw [hdata rfl]
    exact congrArg (fun a => rowOrError (mapperRow p w .cpuRead a 0)) ha
  case cpuWrite => exact congrArg (fun a => rowOrError (mapperRow p w .cpuWrite a d)) ha
  case vidRead =>
    have hwithin : within 0 0x1FFF a = true := within_iff.2 ⟨Nat.zero_le _, haddr rfl⟩
    rw [hdata rfl]
    exact (congrArg (fun a => decodeVideo p (some w) .vidRead a 0) ha).trans (if_pos hwithin)
  case vidWrite =>
    have hwithin : within 0 0x1FFF a = true := within_iff.2 ⟨Nat.zero_le _, haddr rfl⟩
    exact (congrArg (fun a => decodeVideo p (some w) .vidWrite a d) ha).trans (if_pos hwithin)
  all_goals exact absurd rfl hrows

/-- A table row in range, of the variant, at an address that the mapper receives is the one that the decode selects. -/
theorem RowGives.mapperRow {p : Params} {w : Variant} {r : Row} {i : Instr} {a : Addr} {d : Byte} (h : RowGives r i a d)
    (hv : i.variants.contains w = true) (hbelow : belowCart p i.format a = false) :
    mapperRow p w i.format a d = some i := by
  have hvars : r.variants.contains w = true := by rwa [← rowsOf_variants h.mem a d, h.build]
  rw [mapperRow_of_findRow d hbelow (findRow_of_mem h.mem (selectsRow_iff.2 ⟨hvars, h.covers⟩)), h.build]

theorem decode_encode_row {p : Params} {w : Variant} {i : Instr} (hrows : rowsOf i.format ≠ [])
    (hdef : i.isDefault = false) (hvars : i.variants.isEmpty = false) (hwf : i.wf p = true)
    (hdec : decodesFor p w i = true) : decode p (some w) (encode i) = .ok i := by
  obtain ⟨r, a, d, hr⟩ := exists_rowGives hrows hdef hwf
  rw [decodesFor_of_isDefault hdef, hvars, Bool.false_or, Bool.and_eq_true, Bool.not_eq_true', hr.request,
    mapperRequest_addr] at hdec
  have haddr (hvid : i.format.port = .video) : a.toNat ≤ 0x1FFF := by
    obtain ⟨-, hhi, -⟩ := rowsOf_video hvid r hr.mem
    exact hhi ▸ (coversRow_range hr.covers).2
  rw [hr.request, decode_mapperRequest hrows hr.noData haddr, hr.mapperRow hdec.1 hdec.2]
  rfl

theorem mapperRow_default {p : Params} {w : Variant} {f : Format} {a : Addr} {d : Byte} {i : Instr}
    (hi : defaultRow f a d = some i) (hbelow : belowCart p f a = false) (hrow : findRow w f a = none) :
    mapperRow p w f a d = some i := by
  rw [mapperRow, hbelow, if_neg Bool.false_ne_true, hrow]
  exact hi

/-- A default row of the cartridge range decodes where no other row of the variant covers its address. -/
theorem decode_encode_default {p : Params} {w : Variant} {i : Instr} (hdef : i.isDefault = true) (hwf : i.wf p = true)
    (hdec : decodesFor p w i = true) : decode p (some w) (encode i) = .ok i := by
  cases i
  case genRUnmapped a =>
    have hbelow : belowCart p .cpuRead a = false := decide_eq_false (Nat.not_lt.2 (within_iff.1 hwf).1)
    have hrow := mapperRow_default (d := 0) rfl hbelow (Option.isNone_iff_eq_none.1 hdec)
    exact (decode_mapperRequest (f := .cpuRead) nofun (fun _ => rfl) nofun).trans (congrArg rowOrError hrow)
  case genWUnmapped a d =>
    have hbelow : belowCart p .cpuWrite a = false := decide_eq_false (Nat.not_lt.2 (within_iff.1 hwf).1)
    have hrow := mapperRow_default (d := d) rfl hbelow (Option.isNone_iff_eq_none.1 hdec)
    exact (decode_mapperRequest (f := .cpuWrite) nofun nofun nofun).trans (congrArg rowOrError hrow)
  all_goals cases hdef

/-- The bus rows decode by the side of `CART_BASE` on which the address lies (30 R83). -/
theorem decode_busRead (p : Params) (v : Option Variant) (a : Addr) :
    decode p v (addrRequest .busRead a) = .ok (busReadRow p a) :=
  congrArg (fun a => Except.ok (busReadRow p a)) (fieldOf16_byteOf a)

theorem decode_busWrite (p : Params) (v : Option Variant) (a : Addr) (d : Byte) :
    decode p v (dataRequest .busWrite a d) = .ok (busWriteRow p a d) :=
  congrArg (fun a => Except.ok (busWriteRow p a d)) (fieldOf16_byteOf a)

theorem decode_cycleRequest (p : Params) (w : Variant) (sl cy : BitVec 16) (bg sp : Bool) :
    decode p (some w) (cycleRequest sl cy bg sp) = .ok (videoCycleRow w sl cy bg sp) := by
  obtain ⟨hlt, hbg, hsp⟩ := byteOfFlags_bits bg sp
  refine (if_pos hlt).trans ?_
  rw [decodeFor, hbg, hsp, fieldOf16_byteOf, fieldOf16_byteOf]

theorem decode_mirror (p : Params) (v : Option Variant) (base : Addr) {regionSize extent : BitVec 17}
    (hr : regionSize.toNat ≤ 65536) (he : extent.toNat ≤ 65536) :
    decode p v (encode (.mirror base regionSize extent)) = .ok (.mirror base regionSize extent) := by
  simp only [encode, decode, bytesOf16, bytesOf17, List.cons_append, List.nil_append, fieldOf17_byteOf hr,
    fieldOf17_byteOf he, fieldOf16_byteOf]

/-- Settles O1: a bus or host row decodes from its bytes, a table row as the only one of its variant at its address, a
default row where none covers the address. -/
theorem decodeEncode : Obligations.DecodeEncode := by
  intro p i v hwf hv
  cases i
  case busRLocal a => exact (decode_busRead p v a).trans (congrArg _ (if_pos (of_decide_eq_true hwf)))
  case busWLocal a d => exact (decode_busWrite p v a d).trans (congrArg _ (if_pos (of_decide_eq_true hwf)))
  case busRCart a =>
    exact (decode_busRead p v a).trans (congrArg _ (if_neg (Nat.not_lt.2 (within_iff.1 hwf).1)))
  case busWCart a d =>
    exact (decode_busWrite p v a d).trans (congrArg _ (if_neg (Nat.not_lt.2 (within_iff.1 hwf).1)))
  case mirror base regionSize extent =>
    obtain ⟨hr, he⟩ := Bool.and_eq_true_iff.1 hwf
    exact decode_mirror p v base (of_decide_eq_true hr) (of_decide_eq_true he)
  case resetcfg | wipe | load | unload | saveload | savedump | name => rfl
  all_goals obtain ⟨w, rfl, hdec⟩ := hv.resolve_left nofun
  case genRUnmapped | genWUnmapped => exact decode_encode_default rfl hwf hdec
  case genVcNop =>
    refine (decode_cycleRequest ..).trans (congrArg _ ?_)
    cases w
    case mmc3 | mmc5 => cases hdec
    all_goals rfl
  case mmc5Vc =>
    refine (decode_cycleRequest ..).trans (congrArg _ ?_)
    cases w
    case mmc5 => rfl
    all_goals cases hdec
  case mmc3Vc =>
    refine (decode_cycleRequest ..).trans (congrArg _ ?_)
    cases w
    case mmc3 => rfl
    all_goals cases hdec
  all_goals exact decode_encode_row nofun rfl rfl hwf hdec

end Sys2Proof.Machine
end

section
/-! SUPPORT. What a request that decodes means, by its format. -/

namespace Sys2Proof.Machine

theorem rowOrError_ok {o : Option Instr} {i : Instr} (h : rowOrError o = .ok i) : o = some i := by
  cases o <;> cases h
  rfl

theorem decodeFor_ok {v : Option Variant} {k : Variant → Except DecodeError Instr} {i : Instr}
    (h : decodeFor v k = .ok i) : ∃ w, v = some w ∧ k w = .ok i := by
  cases v with
  | none => cases h
  | some w => exact ⟨w, rfl, h⟩

theorem decodeVideo_ok {p : Params} {v : Option Variant} {f : Format} {a : Addr} {d : Byte} {i : Instr}
    (h : decodeVideo p v f a d = .ok i) : ∃ w, v = some w ∧ mapperRow p w f a d = some i := by
  obtain ⟨w, rfl, hk⟩ := decodeFor_ok h
  split at hk
  · exact ⟨w, rfl, rowOrError_ok hk⟩
  · cases hk

/-- The request means the instruction: a well-formed row of the bus, of the host or of the loaded variant, which encodes
as that very request. -/
structure Means (p : Params) (v : Option Variant) (r : Request) (i : Instr) : Prop where
  wf : i.wf p = true
  row : i.variants = [] ∨ ∃ w, v = some w ∧ decodesFor p w i = true
  request : encode i = r

/-- A request of a mapper transaction means the row that is selected. -/
theorem Means.of_mapperRow {p : Params} {w : Variant} {f : Format} {a : Addr} {d : Byte} {i : Instr} {r : Request}
    (h : mapperRow p w f a d = some i) (hreq : mapperRequest f a d = r) : Means p (some w) r i :=
  ⟨mapperRow_wf h, .inr ⟨w, rfl, mapperRow_decodesFor h⟩, (mapperRow_encode h).trans hreq⟩

section
variable {p : Params} {v : Option Variant} {ops : List Byte} {i : Instr}

theorem addrRequest_fieldOf16 (f : Format) (a0 a1 : Byte) : addrRequest f (fieldOf16 a0 a1) = ⟨f, [a0, a1]⟩ :=
  congrArg (Request.mk f) (bytesOf16_fieldOf16 a0 a1)

theorem dataRequest_fieldOf16 (f : Format) (a0 a1 d : Byte) : dataRequest f (fieldOf16 a0 a1) d = ⟨f, [a0, a1, d]⟩ :=
  congrArg (fun bytes => Request.mk f (bytes ++ [d])) (bytesOf16_fieldOf16 a0 a1)

theorem means_of_decode_read {f : Format} (hf : f = .busRead ∨ f = .vidRead ∨ f = .cpuRead)
    (h : decode p v ⟨f, ops⟩ = .ok i) : Means p v ⟨f, ops⟩ i := by
  match ops, h with
  | [a0, a1], h =>
    rw [← addrRequest_fieldOf16]
    obtain rfl | rfl | rfl := hf
    · cases h
      rw [busReadRow]
      split
      case isTrue hlt => exact ⟨decide_eq_true hlt, .inl rfl, rfl⟩
      case isFalse hge => exact ⟨within_iff.2 ⟨Nat.not_lt.1 hge, Nat.le_of_lt_succ (BitVec.isLt _)⟩, .inl rfl, rfl⟩
    · obtain ⟨w, rfl, hrow⟩ := decodeVideo_ok h
      exact .of_mapperRow hrow rfl
    · obtain ⟨w, rfl, hrow⟩ := decodeFor_ok h
      exact .of_mapperRow (rowOrError_ok hrow) rfl
  | [], h | [_], h | _ :: _ :: _ :: _, h => obtain rfl | rfl | rfl := hf <;> cases h

theorem means_of_decode_write {f : Format} (hf : f = .busWrite ∨ f = .vidWrite ∨ f = .cpuWrite)
    (h : decode p v ⟨f, ops⟩ = .ok i) : Means p v ⟨f, ops⟩ i := by
  match ops, h with
  | [a0, a1, d], h =>
    rw [← dataRequest_fieldOf16]
    obtain rfl | rfl | rfl := hf
    · cases h
      rw [busWriteRow]
      split
      case isTrue hlt => exact ⟨decide_eq_true hlt, .inl rfl, rfl⟩
      case isFalse hge => exact ⟨within_iff.2 ⟨Nat.not_lt.1 hge, Nat.le_of_lt_succ (BitVec.isLt _)⟩, .inl rfl, rfl⟩
    · obtain ⟨w, rfl, hrow⟩ := decodeVideo_ok h
      exact .of_mapperRow hrow rfl
    · obtain ⟨w, rfl, hrow⟩ := decodeFor_ok h
      exact .of_mapperRow (rowOrError_ok hrow) rfl
  | [], h | [_], h | [_, _], h | _ :: _ :: _ :: _ :: _, h => obtain rfl | rfl | rfl := hf <;> cases h

/-- The video-cycle row of a variant is one of its rows. -/
theorem means_videoCycleRow (w : Variant) (sl cy : BitVec 16) (bg sp : Bool) :
    Means p (some w) (cycleRequest sl cy bg sp) (videoCycleRow w sl cy bg sp) := by
  cases w <;> exact ⟨rfl, .inr ⟨_, rfl, rfl⟩, rfl⟩

theorem means_of_decode_videoCycle (h : decode p v ⟨.videoCycle, ops⟩ = .ok i) : Means p v ⟨.videoCycle, ops⟩ i := by
  match ops, h with
  | [s0, s1, c0, c1, flags], h =>
    by_cases hflags : flags.toNat < 4
    case pos =>
      obtain ⟨w, rfl, hrow⟩ := decodeFor_ok ((if_pos hflags).symm.trans h)
      have hreq : cycleRequest (fieldOf16 s0 s1) (fieldOf16 c0 c1) (flags.getLsbD 0) (flags.getLsbD 1) =
          ⟨.videoCycle, [s0, s1, c0, c1, flags]⟩ := by
        rw [cycleRequest, bytesOf16_fieldOf16, bytesOf16_fieldOf16, byteOfFlags_of_lt hflags]
        rfl
      cases hrow
      exact hreq ▸ means_videoCycleRow w _ _ _ _
    case neg => cases (if_neg hflags).symm.trans h
  | [], h | [_], h | [_, _], h | [_, _, _], h | [_, _, _, _], h | _ :: _ :: _ :: _ :: _ :: _ :: _, h => cases h

theorem means_of_decode_mirror (h : decode p v ⟨.configureMirror, ops⟩ = .ok i) :
    Means p v ⟨.configureMirror, ops⟩ i := by
  match ops, h with
  | [b0, b1, r0, r1, r2, e0, e1, e2], h =>
    cases hr : fieldOf17 r0 r1 r2 with
    | none => simp [decode, hr] at h
    | some regionSize =>
      cases he : fieldOf17 e0 e1 e2 with
      | none => simp [decode, hr, he] at h
      | some extent =>
        obtain ⟨hrle, hrbytes⟩ := fieldOf17_some hr
        obtain ⟨hele, hebytes⟩ := fieldOf17_some he
        have hi : i = .mirror (fieldOf16 b0 b1) regionSize extent := by simpa [decode, hr, he, eq_comm] using h
        subst hi
        refine ⟨Bool.and_eq_true_iff.2 ⟨decide_eq_true hrle, decide_eq_true hele⟩, .inl rfl, ?_⟩
        rw [encode, bytesOf16_fieldOf16, hrbytes, hebytes]
        rfl
  | [], h | [_], h | [_, _], h | [_, _, _], h | [_, _, _, _], h | [_, _, _, _, _], h | [_, _, _, _, _, _], h |
      [_, _, _, _, _, _, _], h | _ :: _ :: _ :: _ :: _ :: _ :: _ :: _ :: _ :: _, h => cases h

end

/-- Settles O2: by the format of the request, whose operand bytes are those of the row that it selects. -/
theorem decodeSound : Obligations.DecodeSound := by
  intro p v ⟨f, ops⟩ i h
  suffices hmeans : Means p v ⟨f, ops⟩ i from ⟨hmeans.wf, hmeans.row, hmeans.request⟩
  cases f
  case busRead => exact means_of_decode_read (.inl rfl) h
  case vidRead => exact means_of_decode_read (.inr (.inl rfl)) h
  case cpuRead => exact means_of_decode_read (.inr (.inr rfl)) h
  case busWrite => exact means_of_decode_write (.inl rfl) h
  case vidWrite => exact means_of_decode_write (.inr (.inl rfl)) h
  case cpuWrite => exact means_of_decode_write (.inr (.inr rfl)) h
  case videoCycle => exact means_of_decode_videoCycle h
  case configureMirror => exact means_of_decode_mirror h
  case load | saveLoad =>
    cases h
    exact ⟨rfl, .inl rfl, rfl⟩
  case resetConfiguration | wipe | unload | saveDump | name =>
    cases ops <;> cases h
    exact ⟨rfl, .inl rfl, rfl⟩

end Sys2Proof.Machine
end

section
/-! SUPPORT. A step is its decoded instruction; what is refused and in which order; power-on; reads and writes of a
byte array. -/

namespace Sys2Proof.Machine

/-- Settles O5: the decoder evaluates on the eight requests. -/
theorem writtenRequestsDecode : Obligations.WrittenRequestsDecode :=
  ⟨rfl, rfl, rfl, rfl, rfl, rfl, rfl, rfl⟩

theorem step_decoded {s : State} {r : Request} {rest : List Request} {i : Instr} (hp : s.pending = r :: rest)
    (hd : decode s.params s.variant r = .ok i) : step s = exec i (s.taken rest) := by
  simp only [step, hp, hd]

theorem step_undecoded {s : State} {r : Request} {rest : List Request} {e : DecodeError} (hp : s.pending = r :: rest)
    (hf : s.fault = none) (hd : decode s.params s.variant r = .error e) : step s = .refused (refusalOf e) := by
  simp only [step, hp, hd, State.refuse, hf]

/-- Settles O6: the three branches of `step`. -/
theorem stepRunsDecoded : Obligations.StepRunsDecoded :=
  ⟨fun _ _ _ _ hp hd => step_decoded hp hd, fun _ _ _ _ hp hf hd => step_undecoded hp hf hd,
    fun _ hp => step_next.2 (.inl ⟨hp, rfl⟩)⟩

section
variable {s : State} (hf : s.fault = none) (hc : s.cart = none)
include hf hc

/-- Without a cartridge, each transaction that needs one is refused before its own rule (60 R267). -/
theorem exec_noCartridge {i : Instr} (hneeds : needsCartridge i = true) : exec i s = .refused .noCartridge := by
  cases i
  case busRLocal | busWLocal | mirror | resetcfg | wipe | load | unload => cases hneeds
  case busRCart | busWCart => exact State.forward_noCartridge hf hc _ _ _
  case name => exact exec_name_noCartridge hf hc
  all_goals exact State.onCart_noCartridge hf hc

end

/-- Settles O9: the power-on state has no cartridge, so `exec_noCartridge` applies; the rest is its definition. -/
theorem powerOn : Obligations.PowerOn := by
  refine ⟨fun p => ⟨rfl, rfl, rfl, rfl, rfl, rfl, fun _ hneeds => exec_noCartridge rfl rfl hneeds⟩, .standard, rfl,
    rfl, rfl, rfl, rfl, rfl, rfl, fun v => ?_, rfl, rfl⟩
  cases v <;> rfl

/-- The requests of the two video accesses. -/
theorem videoRequest {a : Addr} {d : Byte} {r : Request}
    (hr : r = ⟨.vidRead, bytesOf16 a⟩ ∨ r = ⟨.vidWrite, bytesOf16 a ++ [d]⟩) (p : Params) (v : Option Variant) :
    ∃ f d, decode p v r = decodeVideo p v f a d := by
  obtain rfl | rfl := hr
  · exact ⟨.vidRead, 0, congrArg (fun a => decodeVideo p v .vidRead a 0) (fieldOf16_byteOf a)⟩
  · exact ⟨.vidWrite, d, congrArg (fun a => decodeVideo p v .vidWrite a d) (fieldOf16_byteOf a)⟩

/-- Settles O8: without a cartridge a video access does not decode either; with one, it does not decode outside the
pattern space. The save hooks refuse as O24 says. -/
theorem refusalsInOrder : Obligations.RefusalsInOrder := by
  refine ⟨fun s i hf hc hneeds => exec_noCartridge hf hc hneeds, fun s a d rest r hf hc hr hp => ?noCartridge,
    fun s c a d rest r ⟨hf, hc⟩ ha hr hp => ?badAddress, fun s c bytes ⟨hf, hc⟩ hb => ?noBattery,
    fun s c bytes ⟨hf, hc⟩ hb hlen => ?badLength⟩
  case noCartridge =>
    obtain ⟨f, d, hd⟩ := videoRequest hr s.params s.variant
    refine step_undecoded hp hf (e := .noCartridge) (hd.trans ?_)
    rw [State.variant, hc]
    rfl
  case badAddress =>
    obtain ⟨f, d, hd⟩ := videoRequest hr s.params s.variant
    refine step_undecoded hp hf (e := .badVideoAddress) (hd.trans ?_)
    rw [State.variant, hc]
    exact if_neg fun h => Nat.not_le.2 ha (within_iff.1 h).2
  case noBattery =>
    obtain ⟨-, hsave⟩ := saveHooks s bytes hf
    exact (hsave c hc).1 hb
  case badLength =>
    obtain ⟨-, hsave⟩ := saveHooks s bytes hf
    exact ((hsave c hc).2 hb).1 hlen

theorem lookupCell_insertCell_ne {i j : Nat} (hne : j ≠ i) (v : Byte) (l : List Host.Cell) :
    lookupCell j (insertCell i v l) = lookupCell j l := by
  induction l with
  | nil => exact if_neg hne
  | cons x rest ih =>
    rw [insertCell]
    split_ifs with hlt heq
    · exact if_neg hne
    · rw [lookupCell, lookupCell, if_neg hne, if_neg (heq ▸ hne)]
    · rw [lookupCell, lookupCell, ih]

theorem lookupCell_eraseCell_ne {i j : Nat} (hne : j ≠ i) (l : List Host.Cell) :
    lookupCell j (eraseCell i l) = lookupCell j l := by
  induction l with
  | nil => rfl
  | cons x rest ih =>
    rw [eraseCell]
    split_ifs with heq
    · rw [lookupCell, if_neg (heq ▸ hne)]
    · rw [lookupCell, lookupCell, ih]

theorem Memory.read_write_ne (m : Memory) {i j : Nat} (hne : j ≠ i) (v : Byte) : (m.write i v).read j = m.read j := by
  have hcell : lookupCell j (m.write i v).cells = lookupCell j m.cells := by
    rw [Memory.write]
    split
    · exact lookupCell_eraseCell_ne hne _
    · exact lookupCell_insertCell_ne hne v _
  rw [Memory.read, Memory.read, hcell, Memory.write_fill]

/-- Settles O26: only the cell of the written index is inserted or erased. -/
theorem arrayReadWrite : Obligations.ArrayReadWrite := by
  intro m i j v hwf
  split
  case isTrue h => rw [h, Memory.read_write_same i v hwf]
  case isFalse hne => exact Memory.read_write_ne m hne v

end Sys2Proof.Machine
end

section
/-! SUPPORT. The video write of a variant (42 R147). -/

namespace Sys2Proof.Machine

/-- Every variant has a video write row, and it covers the pattern space (30 R87, R88). -/
theorem findRow_vidWrite (v : Variant) {a : Addr} (ha : a.toNat ≤ 0x1FFF) : (findRow v .vidWrite a).isSome = true := by
  have hrow : ∃ r ∈ rowsOf .vidWrite, r.variants.contains v = true := by
    cases v <;> decide
  obtain ⟨r, hr, hv⟩ := hrow
  obtain ⟨hlo, hhi, hparity⟩ := rowsOf_video rfl r hr
  have hcov : coversRow r a = true := by
    simp [coversRow, within_iff, hlo, hhi, hparity, ha]
  rw [findRow_of_mem hr (selectsRow_iff.2 ⟨hv, hcov⟩)]
  rfl

/-- On character ROM each video write row raises an illegal write and does nothing else (42 R147). -/
theorem exec_vidWrite_rom {s t : State} {c : Cartridge} {i : Instr} {a : Addr} {d : Byte} (hc : s.cart = some c)
    (hrom : c.chrIsRam = false) (hf : i.format = .vidWrite) (hreq : encode i = dataRequest .vidWrite a d)
    (h : exec i s = .next t) : t = s.errored (.illegalWrite a d) := by
  have hchr (off : Nat) : s.chrWrite c a off d = s.errored (.illegalWrite a d) := by
    rw [State.chrWrite_eq, hrom, if_neg Bool.false_ne_true]
  cases i
  case genVwChr8fixed | mmc5VwChr | cnromVwChr | cdVwChr | cpromVwChr | gxVwChr | mmc1VwChr | mmc24VwChr | mmc3VwChr =>
    obtain ⟨rfl, rfl⟩ := dataRequest_inj hreq
    obtain ⟨-, -, c', x, hc', -, rfl⟩ := State.onRow_next.1 h
    cases hc.symm.trans hc'
    exact hchr _
  case m15VwChr =>
    obtain ⟨rfl, rfl⟩ := dataRequest_inj hreq
    obtain ⟨-, -, c', x, hc', -, rfl⟩ := State.onRow_next.1 h
    cases hc.symm.trans hc'
    split
    · exact State.raise_illegalWrite ..
    · exact hchr _
  all_goals cases hf

/-- Settles O44: the variant has a video write row, that row runs, and on ROM it only raises the error. -/
theorem chrRomWrites : Obligations.ChrRomWrites := by
  intro s c a d hs ha hrom
  obtain ⟨r, hr⟩ := Option.isSome_iff_exists.1 (findRow_vidWrite c.variant ha)
  have hrow := mapperRow_of_findRow (p := s.params) d rfl hr
  obtain ⟨t, ht⟩ := mapperRow_runs hs hrow
  refine ⟨_, hrow, ht.trans (congrArg _ ?_)⟩
  exact exec_vidWrite_rom hs.2 hrom (mapperRow_format hrow) (mapperRow_encode hrow) ht

end Sys2Proof.Machine
end

section
/-! SUPPORT. The last bank in the windows at the top of the address space (44 R179, 70 R287). -/

namespace Sys2Proof.Machine

/-- The last bank, shown in the window that ends with the address space, is the last bytes of the array. -/
theorem bankOffset_last {S lo a n b : Nat} (hlo : lo + S = 0x10000) (ha : lo ≤ a) (hhi : a ≤ 0xFFFF) (hn : 1 ≤ n)
    (hb : b % n = n - 1) : bankOffset b S a lo (n * S) = n * S + a - 0x10000 := by
  obtain ⟨m, rfl⟩ := Nat.exists_eq_add_of_le' hn
  rw [bankOffset_banks b (by omega) (by omega), hb, Nat.add_sub_cancel, Nat.succ_mul]
  omega

/-- The byte of `PrgRom` that the top of the address space shows (70 R287). -/
def Cartridge.topByte (c : Cartridge) (a : Nat) : Byte := c.prgRom.read (16384 * c.prgBanks + a - 0x10000)

section
variable (c : Cartridge) {a : Nat} (ha : 0xE000 ≤ a) (hhi : a ≤ 0xFFFF)
include ha hhi

/-- A window of the last `S` bytes of the address space shows the top bytes where it shows the last bank. -/
theorem Cartridge.romByte_last {S lo n b : Nat} (hlo : lo + S = 0x10000) (hlo' : lo ≤ 0xE000) (hn : 1 ≤ n)
    (hlen : 16384 * c.prgBanks = n * S) (hb : b % n = n - 1) : c.romByte b S a lo = c.topByte a := by
  rw [Cartridge.romByte, Cartridge.topByte, Cartridge.prgLen, Config.prgBankUnit, hlen,
    bankOffset_last hlo (hlo'.trans ha) hhi hn hb]

/-- A 16K `PrgRom` fills the 32K window twice, and its last bytes end it. -/
theorem Cartridge.romByte_16k (hone : c.prgBanks = 1) (b : Nat) : c.romByte b 32768 a 0x8000 = c.topByte a := by
  have hoff : bankOffset b 32768 a 0x8000 (16384 * 1) = 16384 * 1 + a - 0x10000 := by
    rw [bankOffset, if_pos (by decide)]
    omega
  rw [Cartridge.romByte, Cartridge.topByte, Cartridge.prgLen, Config.prgBankUnit, hone, hoff]

section
variable {k : Nat} (hk : k ≤ 6) (hbanks : c.prgBanks = 2 ^ k)
include hk hbanks

/-- The 7-bit bank number 0x7F selects the last bank of each size (44 R179): 127 in 8K, 63 in 16K, 31 in 32K banks. -/
theorem Cartridge.romByte_7F_8k : c.romByte 127 8192 a 0xE000 = c.topByte a := by
  have hlast : ∀ k ≤ 6, 127 % (2 * 2 ^ k) = 2 * 2 ^ k - 1 := by decide
  exact c.romByte_last ha hhi (n := 2 * 2 ^ k) rfl le_rfl (Nat.mul_pos Nat.two_pos (Nat.two_pow_pos k))
    (by omega) (hlast k hk)

theorem Cartridge.romByte_7F_16k : c.romByte 63 16384 a 0xC000 = c.topByte a := by
  have hlast : ∀ k ≤ 6, 63 % 2 ^ k = 2 ^ k - 1 := by decide
  exact c.romByte_last ha hhi (n := 2 ^ k) rfl (by decide) Nat.one_le_two_pow (by omega) (hlast k hk)

theorem Cartridge.romByte_7F_32k : c.romByte 31 32768 a 0x8000 = c.topByte a := by
  cases k with
  | zero => exact c.romByte_16k ha hhi hbanks 31
  | succ k =>
    have hlast : ∀ k ≤ 5, 31 % 2 ^ k = 2 ^ k - 1 := by decide
    exact c.romByte_last ha hhi (n := 2 ^ k) rfl (by decide) Nat.one_le_two_pow (by omega) (hlast k (by omega))

end

end

/-- Settles O38: whatever the mode, the top window is ROM and its register's bank number is 0x7F. -/
theorem mmc5TopBank : Obligations.Mmc5TopBank := by
  intro s c r a k hs hm hreg hk hbanks ha
  have hhi : a.toNat ≤ 0xFFFF := Nat.le_of_lt_succ a.isLt
  have hread {S lo : Nat} (hw : prgWindow r a.toNat = ⟨0xFF, S, lo, true⟩)
      (htop : c.romByte ((0xFF : Byte).toNat % 128 / (S / 8192)) S a.toNat lo = c.topByte a.toNat) :
      exec (.mmc5RPrg a) s = .next (s.answered (c.topByte a.toNat)) :=
    htop ▸ exec_mmc5RPrg hs hm (by omega) hw
  obtain h | h | h | h : r.prgMode = 0 ∨ r.prgMode = 1 ∨ r.prgMode = 2 ∨ r.prgMode = 3 := by
    generalize r.prgMode = mode
    revert mode
    decide
  · exact hread (hreg ▸ prgWindow_mode0 _ h) (c.romByte_7F_32k ha hhi hk hbanks)
  · exact hread (hreg ▸ (prgWindow_mode1 _ h).trans (if_neg (by omega))) (c.romByte_7F_16k ha hhi hk hbanks)
  · exact hread (hreg ▸ (prgWindow_mode2 _ h).trans ((if_neg (by omega)).trans (if_neg (by omega))))
      (c.romByte_7F_8k ha hhi hk hbanks)
  · exact hread (hreg ▸ prgWindow_mode3_last _ h (quarter_eq ha (Nat.lt_succ_of_le hhi)))
      (c.romByte_7F_8k ha hhi hk hbanks)

end Sys2Proof.Machine
end

section
/-! SUPPORT. A load and the launch premises (70 R286 to R292). -/

namespace Sys2Proof.Machine

section
variable (c : Cartridge) {a : Nat} (ha : 0xE000 ≤ a) (hhi : a ≤ 0xFFFF) (hbanks : 1 ≤ c.prgBanks)
include ha hhi hbanks

theorem Cartridge.romByte_last_16k : c.romByte (c.prgBanks - 1) 16384 a 0xC000 = c.topByte a :=
  c.romByte_last ha hhi rfl (by decide) hbanks (Nat.mul_comm _ _) (Nat.mod_eq_of_lt (by omega))

theorem Cartridge.romByte_last_8k : c.romByte (2 * c.prgBanks - 1) 8192 a 0xE000 = c.topByte a :=
  c.romByte_last ha hhi (n := 2 * c.prgBanks) rfl le_rfl (by omega) (by omega) (Nat.mod_eq_of_lt (by omega))

/-- A `PrgRom` of at most 32K in the 32K window (45 R189). -/
theorem Cartridge.romByte_fixed_32k (htwo : c.prgBanks ≤ 2) : c.romByte 0 32768 a 0x8000 = c.topByte a := by
  obtain h | h : c.prgBanks = 1 ∨ c.prgBanks = 2 := by omega
  · exact c.romByte_16k ha hhi h 0
  · exact c.romByte_last ha hhi (n := 1) rfl (by decide) le_rfl (by omega) rfl

end

/-- The launch premises give at least one program bank (40 R99). -/
theorem Cartridge.JustLoaded.one_le_prgBanks {p : Params} {image : List Byte} {c : Cartridge}
    (h : c.JustLoaded p image) : 1 ≤ c.prgBanks := by
  obtain ⟨hcheck, hprg, -⟩ := h
  obtain ⟨-, -, hne, -⟩ := checkImage_ok hcheck
  exact hprg ▸ Nat.one_le_iff_ne_zero.2 hne

theorem Cartridge.JustLoaded.mapper_justLoaded {p : Params} {image : List Byte} {c : Cartridge}
    (h : c.JustLoaded p image) : c.mapper.justLoaded = true := by
  obtain ⟨-, -, -, -, -, -, -, -, -, -, hm⟩ := h
  exact hm

/-- What 70 R286 gives the registers of MMC5. -/
theorem Mapper.justLoaded_mmc5 {r : Mmc5} (h : (Mapper.mmc5 r).justLoaded = true) :
    r.prgMode = 3 ∧ r.prgBank[3] = 0xFF ∧ r.videoActive = false := by
  simp only [Mapper.justLoaded, Bool.and_eq_true, beq_iff_eq, Bool.not_eq_true'] at h
  obtain ⟨⟨⟨hmode, hbank⟩, hvideo⟩, -⟩ := h
  exact ⟨hmode, hbank, hvideo⟩

/-- What 70 R286 gives the registers of MMC1. -/
theorem Mapper.justLoaded_mmc1 {r : Mmc1} (h : (Mapper.mmc1 r).justLoaded = true) :
    r.shiftValue = 0 ∧ r.shiftCount = 0 ∧ r.control.extractLsb' 2 2 = 0b11 := by
  simp only [Mapper.justLoaded, Bool.and_eq_true, beq_iff_eq] at h
  obtain ⟨⟨hvalue, hcount⟩, hcontrol⟩ := h
  exact ⟨hvalue, hcount, hcontrol⟩

/-- What 70 R286 gives the registers of MMC3. -/
theorem Mapper.justLoaded_mmc3 {r : Mmc3} (h : (Mapper.mmc3 r).justLoaded = true) :
    r.irqEnabled = false ∧ r.irqPending = false := by
  simpa [Mapper.justLoaded] using h

section
variable {s : State} {c : Cartridge} {a : Addr} (hs : s.Serves c)
include hs

/-- A bus read of the cartridge range runs the read row of the loaded variant at its address. -/
theorem exec_busRCart_row (hcart : s.params.cartBase ≤ a.toNat) {i : Instr} {r : Row} (hr : RowGives r i a 0)
    (hf : i.format = .cpuRead) (hv : i.variants.contains c.variant = true) : exec (.busRCart a) s = exec i s := by
  have hbelow : belowCart s.params .cpuRead a = false := decide_eq_false (Nat.not_lt.2 hcart)
  have hrow := hr.mapperRow (p := s.params) hv (hf ▸ hbelow)
  rw [hf] at hrow
  exact State.forward_exec_row hs (.inl rfl) hrow

variable (hcart : s.params.cartBase ≤ a.toNat) (ha : 0xE000 ≤ a.toNat)
include hcart ha

/-- A program row `i` of the loaded variant that shows the top bytes shows them on the bus. -/
theorem exec_busRCart_top (i : Instr) {r : Row} (hrow : tableRow i = some r) (hreg : r.atRegister = false)
    (hbuild : r.build a 0 = i) (hreq : encode i = mapperRequest i.format a 0) (hf : i.format = .cpuRead)
    (hwf : i.wf s.params = within 0x8000 0xFFFF a) (hv : i.variants.contains c.variant = true)
    {α : Type} {regs : Mapper → Option α} {x : α} {byte : Cartridge → α → Byte}
    (hexec : exec i s = s.onRow (cpuAddr 0x8000 0xFFFF a) regs fun c x => s.answer (byte c x))
    (hregs : regs c.mapper = some x) (hbyte : byte c x = c.topByte a.toNat) :
    exec (.busRCart a) s = .next (s.answered (c.topByte a.toNat)) := by
  have hlo : 0x8000 ≤ a.toNat := by omega
  have hrange : i.wf s.params = true := hwf.trans (within_iff.2 ⟨hlo, Nat.le_of_lt_succ a.isLt⟩)
  have hgives : RowGives r i a 0 := rowGives_of_wf hrow hbuild hreq hreg (fun _ => rfl) hrange
  rw [exec_busRCart_row hs hcart hgives hf hv, hexec, State.onRow_from hs hregs hlo, hbyte]
  rfl

/-- The variants whose last program bank is fixed at the top (70 R287). -/
theorem exec_busRCart_fixedLast (hbanks : 1 ≤ c.prgBanks) (hinit : c.mapper.justLoaded = true)
    (hv : c.variant ∈ [Variant.uxrom, .camerica71, .mmc1, .mmc2, .mmc4, .mmc3]) :
    exec (.busRCart a) s = .next (s.answered (c.topByte a.toNat)) := by
  have hhi : a.toNat ≤ 0xFFFF := Nat.le_of_lt_succ a.isLt
  have hlast16 := c.romByte_last_16k ha hhi hbanks
  have hlast8 := c.romByte_last_8k ha hhi hbanks
  have hfixed (b : Nat) : c.lowBankHighFixed b a.toNat = c.topByte a.toNat :=
    (c.lowBankHighFixed_high b (by omega)).trans hlast16
  have htop := fun {α i r regs x byte} => 
    exec_busRCart_top hs hcart ha (α := α) i (r := r) (regs := regs) (x := x) (byte := byte)
  rw [Cartridge.variant] at hv htop
  cases hm : c.mapper
  all_goals rw [hm] at hv hinit htop
  case uxrom b => exact htop (i := .uxromRPrg a) rfl rfl rfl rfl rfl rfl rfl rfl rfl (hfixed b.toNat)
  case camerica71 b => exact htop (i := .c71RPrg a) rfl rfl rfl rfl rfl rfl rfl rfl rfl (hfixed b.toNat)
  case mmc4 r => exact htop (i := .mmc4RPrg a) rfl rfl rfl rfl rfl rfl rfl rfl rfl (hfixed _)
  case mmc2 r =>
    have hbyte : mmc2PrgByte c r a.toNat = c.topByte a.toNat := by
      rw [mmc2PrgByte_fixed c r (i := 2) hbanks ha (by omega), fixedBank_fromEnd (k := 1) hbanks (by decide) le_rfl rfl,
        hlast8]
    exact htop (i := .mmc2RPrg a) rfl rfl rfl rfl rfl rfl rfl rfl rfl hbyte
  case mmc3 r =>
    have hbyte : mmc3PrgByte c r a.toNat = c.topByte a.toNat := by
      rw [mmc3PrgByte_quarter c r (i := 3) ha (by omega), mmc3PrgBank_eq]
      exact hlast8
    exact htop (i := .mmc3RPrg a) rfl rfl rfl rfl rfl rfl rfl rfl rfl hbyte
  case mmc1 r =>
    obtain ⟨-, -, hcontrol⟩ := Mapper.justLoaded_mmc1 hinit
    have hmode : r.control.toNat / 4 % 4 = 3 := (toNat_field r.control 2 2).symm.trans (congrArg BitVec.toNat hcontrol)
    have hbyte : mmc1PrgByte c r a.toNat = c.topByte a.toNat := by
      rw [mmc1PrgByte_mode3 c r hmode, if_neg (by omega), hlast16]
    exact htop (i := .mmc1RPrg a) rfl rfl rfl rfl rfl rfl rfl rfl rfl hbyte
  all_goals simp [Mapper.variant] at hv

/-- 70 R287 for every variant that it names. -/
theorem exec_busRCart_launched {image : List Byte} (hj : c.JustLoaded s.params image)
    (hv : c.variant ∈ [Variant.uxrom, .camerica71, .mmc1, .mmc2, .mmc4, .mmc3] ∨
      (c.variant ∈ [Variant.nrom, .cnrom, .cprom] ∧ c.prgBanks ≤ 2) ∨
      (c.variant = .mmc5 ∧ ∃ k, k ≤ 6 ∧ c.prgBanks = 2 ^ k)) :
    exec (.busRCart a) s = .next (s.answered (c.topByte a.toNat)) := by
  have hhi : a.toNat ≤ 0xFFFF := Nat.le_of_lt_succ a.isLt
  have hinit := hj.mapper_justLoaded
  obtain hv | ⟨hv, htwo⟩ | ⟨hv, k, hk, hpow⟩ := hv
  · exact exec_busRCart_fixedLast hs hcart ha hj.one_le_prgBanks hinit hv
  · exact exec_busRCart_top hs hcart ha (.nromRPrg a) rfl rfl rfl rfl rfl rfl (List.contains_iff_mem.2 hv) rfl
      (ofVariants_some hv) (c.romByte_fixed_32k ha hhi hj.one_le_prgBanks htwo)
  · obtain ⟨r, hm⟩ : ∃ r, c.mapper = .mmc5 r := by
      cases hm : c.mapper
      case mmc5 r => exact ⟨r, rfl⟩
      all_goals simp [Cartridge.variant, hm, Mapper.variant] at hv
    obtain ⟨-, hbank, -⟩ := Mapper.justLoaded_mmc5 (hm ▸ hinit)
    have hgives : RowGives _ (.mmc5RPrg a) a 0 := rowGives_of_wf (p := s.params) rfl rfl rfl rfl (fun _ => rfl)
      (within_iff.2 ⟨by omega, hhi⟩)
    rw [exec_busRCart_row hs hcart hgives rfl (hv ▸ rfl)]
    exact mmc5TopBank s c r a k hs hm hbank hk hpow ha

end

/-- A number of one byte's header banks of data that the image holds fills its array. -/
theorem fillSized_section {image : List Byte} {start n : Nat} (h : start + n ≤ image.length) :
    fillSized (.data ((image.drop start).take n)) n = true := by
  simp [fillSized]
  omega

section
variable {p : Params} {image : List Byte} {v : Variant} (hcheck : checkImage p image = .ok v)
include hcheck

theorem imagePrgRom_holds : (imagePrgRom image).holds (16384 * imagePrgBanks image) = true := by
  obtain ⟨-, -, -, hneed, -⟩ := checkImage_ok hcheck
  rw [imageNeed] at hneed
  rw [imagePrgRom, Config.prgBankUnit, Nat.mul_comm]
  exact Memory.bare_holds (fillSized_section (by simp only [Config.prgBankUnit] at hneed; omega))

theorem imageChr_holds : (imageChr image).holds (8192 * max 1 (imageChrBanks image)) = true := by
  obtain ⟨-, -, -, hneed, -⟩ := checkImage_ok hcheck
  rw [imageNeed, Config.prgBankUnit, Config.chrBankUnit] at hneed
  rw [imageChr]
  split
  case isTrue => exact Memory.bare_holds rfl
  case isFalse hne =>
    rw [Nat.max_eq_right (Nat.one_le_iff_ne_zero.2 hne), Config.prgBankUnit, Config.chrBankUnit, Nat.mul_comm 8192]
    exact Memory.bare_holds (fillSized_section hneed)

theorem imageCartridge_justLoaded (n : Nat) : (imageCartridge v image n).JustLoaded p image :=
  ⟨hcheck.trans (congrArg _ (imageCartridge_variant v image n).symm), rfl, rfl, rfl, rfl, Memory.bare_holds rfl, rfl,
    rfl, rfl, rfl, freshMapper_justLoaded v _ _⟩

end

/-- What a `LOAD` that answers `ok` has done. -/
theorem exec_load_next_ok {s t : State} {image : List Byte} (h : exec (.load image) s = .next t)
    (hok : t.result = .ok) :
    s.fault = none ∧ ∃ v, checkImage s.params image = .ok v ∧
      t = { s with cart := some (imageCartridge v image s.draws), draws := s.draws + 3, result := .ok } := by
  obtain ⟨hf, rfl⟩ := State.onHost_next.1 h
  cases hcheck : checkImage s.params image with
  | error e => simp [hcheck] at hok
  | ok v => exact ⟨hf, v, rfl, rfl⟩

theorem saveLoadSel_ok {p : Params} {bytes : List Byte} {c : Cartridge} {x : Unit} (h : saveLoadSel p bytes c = .ok x) :
    bytes.length = c.prgRamLen p := by
  unfold saveLoadSel at h
  split_ifs at h with hb hlen
  exact not_not.1 hlen

theorem Cartridge.JustLoaded.withPrgRam {p : Params} {image : List Byte} {c : Cartridge} {m : Memory}
    (h : c.JustLoaded p image) (hm : m.holds (c.prgRamLen p) = true) :
    { c with prgRam := m }.JustLoaded p image := by
  obtain ⟨hcheck, hprg, hchr, hrom, hchrMem, -, hrest⟩ := h
  exact ⟨hcheck, hprg, hchr, hrom, hchrMem, hm, hrest⟩

/-- Settles O22: a load that answers `ok` leaves `imageCartridge`, and `SAVE_LOAD` changes only `PrgRam`. -/
theorem stateAfterLoad : Obligations.StateAfterLoad := by
  refine ⟨fun s t image c h hok hc => ?load, fun s t image bytes mirrors hl h => ?saveload,
    fun s image mirrors c a hl hc hcart ha hv => ?top⟩
  case load =>
    obtain ⟨hf, v, hcheck, rfl⟩ := exec_load_next_ok h hok
    cases hc
    have hj := imageCartridge_justLoaded hcheck s.draws
    refine ⟨⟨hf, rfl, _, rfl, hj⟩, fun r hm => Mapper.justLoaded_mmc5 (hm ▸ hj.mapper_justLoaded),
      fun r hm => Mapper.justLoaded_mmc1 (hm ▸ hj.mapper_justLoaded),
      fun r hm => Mapper.justLoaded_mmc3 (hm ▸ hj.mapper_justLoaded), ?_, rfl, rfl, rfl, rfl⟩
    cases v <;> rfl
  case saveload =>
    obtain ⟨hf, hmirrors, c, hc, hj⟩ := hl
    obtain ⟨-, c', x, hc', hsel, rfl⟩ := State.onCart_next.1 h
    cases hc.symm.trans hc'
    exact ⟨hf, hmirrors, _, rfl, hj.withPrgRam (Memory.bare_holds (beq_iff_eq.2 (saveLoadSel_ok hsel)))⟩
  case top =>
    obtain ⟨hf, -, c', hc', hj⟩ := hl
    cases hc.symm.trans hc'
    exact exec_busRCart_launched ⟨hf, hc⟩ hcart ha hj hv

end Sys2Proof.Machine
end

section
/-! SUPPORT. What an instruction other than `LOAD` and `UNLOAD` can do to the cartridge, the arrays and the
interrupt. -/

namespace Sys2Proof

/-- Only the counter clock raises `irqLine` (46 R254, R257). -/
def Instr.mayRaiseIrq : Instr → Bool
  | .mmc3Vc _ _ _ _ => true
  | _ => false

/-- Only the disable write, direct or through the bus, drops `irqLine` (46 R249). -/
def Instr.mayDropIrq : Instr → Bool
  | .mmc3WIrqdisable _ _ => true
  | .busWCart a _ => withinParity 0xE000 0xFFFF 0 a
  | _ => false

end Sys2Proof

namespace Sys2Proof.Machine

/-- The interrupt that the mapper's registers hold pending. -/
def Mapper.irqPending : Mapper → Bool
  | .mmc3 r => r.irqPending
  | _ => false

theorem State.irqLine_of_cart {s : State} {c : Cartridge} (hc : s.cart = some c) : s.irqLine = c.mapper.irqPending := by
  simp only [State.irqLine, hc]
  cases c.mapper <;> rfl

theorem State.irqLine_of_empty {s : State} (hc : s.cart = none) : s.irqLine = false := by
  rw [State.irqLine, hc]

/-- The instruction may leave the registers `m'` where `m` were: the variant and the invariant stay, and the pending
interrupt moves only where the instruction may move it. -/
structure Mapper.Follows (i : Instr) (m m' : Mapper) : Prop where
  variant : m'.variant = m.variant
  inv : m.inv = true → m'.inv = true
  raised : i.mayRaiseIrq = false → m'.irqPending = true → m.irqPending = true
  dropped : i.mayDropIrq = false → m.irqPending = true → m'.irqPending = true

/-- The instruction may leave the cartridge in place of `c`: one part of it changes, ROM never. -/
inductive Cartridge.Follows (p : Params) (i : Instr) (c : Cartridge) : Cartridge → Prop
  | regs {m : Mapper} (h : c.mapper.Follows i m) : Follows p i c (c.setMapper m)
  | mirrored {m : Mapper} {mode : MirrorMode} {page : BitVec 1} (h : c.mapper.Follows i m)
      (hmode : mode ≠ .fourScreen) :
      Follows p i c ((c.setMapper m).mirrored mode (pageFor mode page))
  | prgRam {m : Memory}
      (h : 1 ≤ c.prgRamLen p → c.prgRam.holds (c.prgRamLen p) = true → m.holds (c.prgRamLen p) = true) :
      Follows p i c { c with prgRam := m }
  | chr {m : Memory} (hram : c.chrIsRam = true) (h : c.chr.holds c.chrLen = true → m.holds c.chrLen = true) :
      Follows p i c { c with chr := m }

/-- A region of `Mirrors` that the invariant admits (10 R23). -/
def MirrorRegion.Admitted (r : MirrorRegion) : Prop := r.sourceBase ≤ 0xFFFF ∧ 1 ≤ r.regionSize

/-- What an instruction other than `LOAD` and `UNLOAD` can do: the parameters stay, the store and the regions keep their
invariant, a fault is recorded only as 60 R264 says, and the loaded cartridge changes as `Cartridge.Follows` says. -/
structure State.Follows (i : Instr) (s t : State) : Prop where
  params : t.params = s.params
  store : s.store.holds Config.storeSize = true → t.store.holds Config.storeSize = true
  mirrors : (∀ r ∈ s.mirrors, r.Admitted) → ∀ r ∈ t.mirrors, r.Admitted
  fault : faultInv s.params.policy s.fault = true → faultInv s.params.policy t.fault = true
  cart : Option.Rel (Cartridge.Follows s.params i) s.cart t.cart

/-! ## Registers -/

section
variable {i : Instr}

theorem Mapper.Follows.same_irq {m m' : Mapper} (hv : m'.variant = m.variant) (hinv : m.inv = true → m'.inv = true)
    (hirq : m'.irqPending = m.irqPending) : m.Follows i m' :=
  ⟨hv, hinv, fun _ => hirq.symm.trans, fun _ => hirq.trans⟩

theorem Mapper.Follows.refl (m : Mapper) : m.Follows i m := .same_irq rfl id rfl

theorem Cartridge.Follows.refl {p : Params} (c : Cartridge) : c.Follows p i c := .regs (.refl c.mapper)

/-- Registers that differ at most in the latches. -/
theorem Mapper.Follows.of_lessLatches {m m' : Mapper} (h : m'.lessLatches = m.lessLatches) : m.Follows i m' := by
  have hvariant (m : Mapper) : m.lessLatches.variant = m.variant := by cases m <;> rfl
  have hinv (m : Mapper) : m.lessLatches.inv = m.inv := by cases m <;> rfl
  have hirq (m : Mapper) : m.lessLatches.irqPending = m.irqPending := by cases m <;> rfl
  exact .same_irq (by rw [← hvariant, h, hvariant]) (fun hm => by rwa [← hinv, h, hinv]) (by rw [← hirq, h, hirq])

theorem asMmc1_some {m : Mapper} {r : Mmc1} : asMmc1 m = some r ↔ m = .mmc1 r := by
  cases m <;> simp [asMmc1]

theorem asMmc24_some {m : Mapper} {r : Mmc24} : asMmc24 m = some r ↔ m = .mmc2 r ∨ m = .mmc4 r := by
  cases m <;> simp [asMmc24]

theorem asMmc3_some {m : Mapper} {r : Mmc3} : asMmc3 m = some r ↔ m = .mmc3 r := by
  cases m <;> simp [asMmc3]

theorem asMmc5_some {m : Mapper} {r : Mmc5} : asMmc5 m = some r ↔ m = .mmc5 r := by
  cases m <;> simp [asMmc5]

section
variable {m : Mapper}

/-- Registers that a row stores whatever those of its variant were. -/
theorem Mapper.Follows.of_regs {α : Type} {regs : Mapper → Option α} {x : α} {m' : Mapper} (hx : regs m = some x)
    (h : ∀ m, (regs m).isSome = true → m.Follows i m') : m.Follows i m' :=
  h m (hx ▸ rfl)

theorem Mapper.Follows.mmc1 {r : Mmc1} (hm : asMmc1 m = some r) (r' : Mmc1) : m.Follows i (.mmc1 r') := by
  obtain rfl := asMmc1_some.1 hm
  exact .same_irq rfl id rfl

theorem Mapper.Follows.mmc24 {r : Mmc24} (hm : asMmc24 m = some r) (r' : Mmc24) : m.Follows i (withMmc24 m r') := by
  obtain rfl | rfl := asMmc24_some.1 hm <;> exact .same_irq rfl id rfl

theorem Mapper.Follows.mmc3 {r r' : Mmc3} (hm : asMmc3 m = some r)
    (hraised : i.mayRaiseIrq = false → r'.irqPending = true → r.irqPending = true)
    (hdropped : i.mayDropIrq = false → r.irqPending = true → r'.irqPending = true) : m.Follows i (.mmc3 r') := by
  obtain rfl := asMmc3_some.1 hm
  exact ⟨rfl, id, hraised, hdropped⟩

theorem Mapper.Follows.mmc5 {r r' : Mmc5} (hm : asMmc5 m = some r)
    (h : r.exRam.holds Config.exRamSize = true → r'.exRam.holds Config.exRamSize = true) : m.Follows i (.mmc5 r') := by
  obtain rfl := asMmc5_some.1 hm
  exact .same_irq rfl h rfl

end

/-- The counter's step at a clock raises the interrupt or leaves it (46 R254). -/
theorem mmc3Count_irqPending {r : Mmc3} (h : r.irqPending = true) : (mmc3Count r).irqPending = true := by
  simp [mmc3Count, h]

end

/-! ## States -/

section
variable {i : Instr} {s t : State}

/-- The instruction changes nothing but the cartridge and the outputs. -/
theorem State.Follows.of_frame
    (h : t = { s with cart := t.cart, result := t.result, events := t.events, draws := t.draws })
    (hc : Option.Rel (Cartridge.Follows s.params i) s.cart t.cart) : s.Follows i t := by
  have hparams : t.params = s.params := by rw [h]
  have hstore : t.store = s.store := by rw [h]
  have hmirrors : t.mirrors = s.mirrors := by rw [h]
  have hfault : t.fault = s.fault := by rw [h]
  exact ⟨hparams, hstore ▸ id, hmirrors ▸ id, hfault ▸ id, hc⟩

theorem cart_follows_refl (o : Option Cartridge) (p : Params) : Option.Rel (Cartridge.Follows p i) o o := by
  cases o with
  | none => exact .none
  | some c => exact .some (.refl c)

/-- A change of the outputs only. -/
theorem State.Follows.outputs
    (h : t = { s with result := t.result, events := t.events, draws := t.draws }) : s.Follows i t := by
  have hcart : t.cart = s.cart := by rw [h]
  refine .of_frame (h.trans ?_) (hcart ▸ cart_follows_refl ..)
  rw [hcart]

/-- A cartridge in place of the loaded one, and a change of the outputs. -/
theorem State.Follows.stored {c c' : Cartridge} (hc : s.cart = some c) (ht : t.cart = some c')
    (h : t = { s with cart := t.cart, result := t.result, events := t.events, draws := t.draws })
    (hf : c.Follows s.params i c') : s.Follows i t :=
  .of_frame h (hc ▸ ht ▸ .some hf)

theorem State.Follows.putRegs {c : Cartridge} {m : Mapper} (hc : s.cart = some c) (h : c.mapper.Follows i m) :
    s.Follows i (s.putRegs c m) :=
  .stored hc rfl rfl (.regs h)

theorem State.Follows.setMirror {c : Cartridge} {m : Mapper} {mode : MirrorMode} {page : BitVec 1}
    (hc : s.cart = some c) (h : c.mapper.Follows i m) (hmode : mode ≠ .fourScreen) :
    s.Follows i ((s.setMirror (c.setMapper m) mode page).finish .ok) := by
  rw [State.setMirror_eq]
  exact .stored hc rfl rfl (.mirrored h hmode)

/-- A write inside `PrgRam`. -/
theorem State.Follows.writeRam {c : Cartridge} {off : Nat} {d : Byte} (hc : s.cart = some c)
    (hoff : 1 ≤ c.prgRamLen s.params → off < c.prgRamLen s.params) : s.Follows i (s.writeRam c off d) :=
  .stored hc rfl rfl (.prgRam fun hlen => Memory.write_holds d (hoff hlen))

/-- An access error is recorded only under STRICT (60 R264, R265). -/
theorem State.Follows.raise {e : Error} (he : faultInv s.params.policy (some e) = errorRecorded s.params.policy e) :
    s.Follows i (s.raise e) := by
  refine ⟨rfl, id, id, fun hf => ?_, cart_follows_refl ..⟩
  rw [State.raise_fault]
  split
  case isTrue hrec => rw [he, hrec]
  case isFalse => exact hf

theorem State.Follows.ite {u : State} {p : Prop} [Decidable p] (ht : s.Follows i t) (hu : s.Follows i u) :
    s.Follows i (if p then t else u) := by
  split
  · exact ht
  · exact hu

/-- A write inside `Chr`, or the error of character ROM (42 R147). -/
theorem State.Follows.chrWrite {c : Cartridge} {a : Addr} {off : Nat} {d : Byte} (hc : s.cart = some c)
    (hoff : off < c.chrLen) : s.Follows i (s.chrWrite c a off d) := by
  obtain ⟨hram, h⟩ | ⟨-, h⟩ := State.chrWrite_cases s c a off d <;> rw [h]
  · exact .stored hc rfl rfl (.chr hram (Memory.write_holds d hoff))
  · exact .raise rfl

theorem State.Reads.follows (h : s.Reads t) : s.Follows i t := by
  obtain ⟨b, rfl⟩ | rfl := h <;> exact .outputs rfl

theorem State.ReadsLatching.follows (h : s.ReadsLatching t) : s.Follows i t := by
  obtain ⟨c, m, b, hc, hm, rfl⟩ := h
  exact .stored hc rfl rfl (.regs (.of_lessLatches hm))

/-- A row follows where its rule does, on the loaded cartridge and the registers that the row reads. -/
theorem State.onRow_follows {α : Type} {addr : Option Refusal} {regs : Mapper → Option α} {k : Cartridge → α → State}
    (h : s.onRow addr regs k = .next t)
    (hk : ∀ c x, s.cart = some c → regs c.mapper = some x → addr = none → s.Follows i (k c x)) : s.Follows i t := by
  obtain ⟨-, ha, c, x, hc, hx, rfl⟩ := State.onRow_next.1 h
  exact hk c x hc hx ha

/-- A row that stores registers of its own variant. -/
theorem State.onRow_putRegs {α : Type} {addr : Option Refusal} {regs : Mapper → Option α} {m : Cartridge → α → Mapper}
    (h : s.onRow addr regs (fun c x => s.putRegs c (m c x)) = .next t)
    (hm : ∀ (c : Cartridge) x, regs c.mapper = some x → c.mapper.Follows i (m c x)) : s.Follows i t :=
  State.onRow_follows h fun c x hc hx _ => .putRegs hc (hm c x hx)

/-- A row that writes `Chr` inside the array. -/
theorem State.onRow_chrWrite {α : Type} {addr : Option Refusal} {regs : Mapper → Option α} {a : Addr} {d : Byte}
    {off : Cartridge → α → Nat} (h : s.onRow addr regs (fun c x => s.chrWrite c a (off c x) d) = .next t)
    (hoff : ∀ c x, off c x < c.chrLen) : s.Follows i t :=
  State.onRow_follows h fun c x hc _ _ => .chrWrite hc (hoff c x)

end

/-! ## Offsets into the arrays -/

section
variable (c : Cartridge) (a : Nat)

theorem Cartridge.chrIndex_lt (b lo : Nat) {S : Nat} (hS : 1 ≤ S) : c.chrIndex b S a lo < c.chrLen :=
  bankOffset_lt b a lo hS ((by decide : 1 ≤ 8192).trans c.chrBankUnit_le_chrLen)

theorem mmc5ChrIndex_lt (r : Mmc5) : mmc5ChrIndex c r a < c.chrLen := by
  have hsize : 1 ≤ chrBankSize r := by
    rw [chrBankSize]
    generalize r.chrMode = mode
    revert mode
    decide
  exact c.chrIndex_lt a _ _ hsize

theorem cpromChrIndex_lt (reg : Byte) : cpromChrIndex c reg a < c.chrLen := by
  rw [cpromChrIndex]
  split <;> exact c.chrIndex_lt a _ _ (by decide)

theorem mmc1ChrIndex_lt (r : Mmc1) : mmc1ChrIndex c r a < c.chrLen := by
  rw [mmc1ChrIndex]
  split
  · exact c.chrIndex_lt a _ _ (by decide)
  · split <;> exact c.chrIndex_lt a _ _ (by decide)

theorem chr24Offset_lt (r : Mmc24) : chr24Offset c r a < c.chrLen := by
  rw [chr24Offset]
  split <;> exact c.chrIndex_lt a _ _ (by decide)

theorem mmc3ChrIndex_lt (r : Mmc3) : mmc3ChrIndex c r a < c.chrLen :=
  c.chrIndex_lt a _ _ (by decide)

theorem Cartridge.ram6000_lt {p : Params} (bank : Nat) (h : 1 ≤ c.prgRamLen p) : c.ram6000 p bank a < c.prgRamLen p :=
  bankOffset_lt bank a _ (by decide) h

theorem exRamIndex_lt {a : Nat} (hlo : 0x5C00 ≤ a) (hhi : a ≤ 0x5FFF) : exRamIndex a < Config.exRamSize := by
  unfold exRamIndex Config.exRamSize
  omega

theorem windowIndex_lt (r : Mmc5) {len : Nat} (h : 1 ≤ len) : windowIndex (prgWindow r a) a len < len := by
  have hsize : 1 ≤ (prgWindow r a).size := by
    unfold prgWindow
    dsimp only
    split_ifs <;> norm_num
  exact bankOffset_lt _ _ _ hsize h

end

/-! ## Instructions -/

section
variable {i : Instr} {s t : State}

theorem byBit_ne_fourScreen (b : Bool) : (if b then MirrorMode.horizontal else .vertical) ≠ .fourScreen := by
  cases b <;> decide

theorem mmc1Mirror_ne_fourScreen (m : BitVec 2) : (mmc1Mirror m).1 ≠ .fourScreen := by
  revert m
  decide

theorem State.Follows.mmc1Commit {c : Cartridge} {r : Mmc1} {a : Addr} {v : BitVec 5} (hc : s.cart = some c)
    (hr : asMmc1 c.mapper = some r) : s.Follows i (s.mmc1Commit c r a v) := by
  have hregs (r' : Mmc1) : s.Follows i (s.putRegs c (.mmc1 r')) := .putRegs hc (.mmc1 hr r')
  rw [State.mmc1Commit_eq]
  exact .ite (.setMirror hc (.mmc1 hr _) (mmc1Mirror_ne_fourScreen _)) (.ite (hregs _) (.ite (hregs _) (hregs _)))

theorem exec_vidWrite_follows (hf : i.format = .vidWrite) (h : exec i s = .next t) : s.Follows i t := by
  cases i
  case genVwChr8fixed | cnromVwChr | cdVwChr | gxVwChr =>
    exact State.onRow_chrWrite h fun c _ => c.chrIndex_lt _ _ _ (by decide)
  case mmc5VwChr => exact State.onRow_chrWrite h fun c r => mmc5ChrIndex_lt c _ r
  case cpromVwChr => exact State.onRow_chrWrite h fun c reg => cpromChrIndex_lt c _ reg
  case mmc1VwChr => exact State.onRow_chrWrite h fun c r => mmc1ChrIndex_lt c _ r
  case mmc24VwChr => exact State.onRow_chrWrite h fun c r => chr24Offset_lt c _ r
  case mmc3VwChr => exact State.onRow_chrWrite h fun c r => mmc3ChrIndex_lt c _ r
  case m15VwChr =>
    refine State.onRow_follows h fun c r hc _ ha => .ite (.raise rfl) (.chrWrite hc ?_)
    exact (Nat.lt_succ_of_le (videoAddr_none.1 ha)).trans_le c.chrBankUnit_le_chrLen
  all_goals cases hf

theorem exec_videoCycle_follows (hf : i.format = .videoCycle) (h : exec i s = .next t) : s.Follows i t := by
  cases i
  case genVcNop => exact State.onRow_follows h fun _ _ _ _ _ => .outputs rfl
  case mmc5Vc => exact State.onRow_follows h fun _ _ hc hr _ => .stored hc rfl rfl (.regs (.mmc5 hr id))
  case mmc3Vc =>
    refine State.onRow_follows h fun c r hc hr _ => .stored hc rfl rfl (.regs (.mmc3 hr nofun fun _ hirq => ?_))
    split
    · exact mmc3Count_irqPending hirq
    · exact hirq
  all_goals cases hf

theorem exec_cpuWrite_follows (hf : i.format = .cpuWrite) (h : exec i s = .next t) : s.Follows i t := by
  cases i
  case genWUnmapped => exact State.onRow_follows h fun _ _ _ _ _ => .outputs rfl
  case mmc5WPrgmode | mmc5WChrmode | mmc5WProtect1 | mmc5WProtect2 | mmc5WExrammode | mmc5WNtmap | mmc5WFilltile |
      mmc5WFillattr | mmc5WPrgrambank | mmc5WPrgbank0 | mmc5WPrgbank1 | mmc5WPrgbank2 | mmc5WPrgbank3 | mmc5WChrupper |
      mmc5WMult1 | mmc5WMult2 | mmc5WChra | mmc5WChrb =>
    exact State.onRow_putRegs h fun _ _ hr => .mmc5 hr id
  case mmc24WPrgsel | mmc24WChr0fd | mmc24WChr0fe | mmc24WChr1fd | mmc24WChr1fe =>
    exact State.onRow_putRegs h fun _ _ hr => .mmc24 hr _
  case mmc3WBankselect | mmc3WBankdata | mmc3WRamprotect | mmc3WIrqlatch | mmc3WIrqreload | mmc3WIrqenable =>
    exact State.onRow_putRegs h fun _ _ hr => .mmc3 hr (fun _ => id) fun _ => id
  case mmc3WIrqdisable => exact State.onRow_putRegs h fun _ _ hr => .mmc3 hr nofun nofun
  case uxromWBank | cnromWBank | cdWReg | cpromWReg | gxWReg | c71WBank =>
    exact State.onRow_putRegs h fun _ _ hx => .of_regs hx fun m hm => by
      cases m <;> cases hm
      exact .same_irq rfl id rfl
  case nromWPrg | c71WRom | mmc24WRom => exact State.onRow_follows h fun _ _ _ _ _ => .raise rfl
  case genWPrgram6000 => exact State.onRow_follows h fun c _ hc _ _ => .writeRam hc (c.ram6000_lt _ _)
  case mmc1WPrgram => exact State.onRow_follows h fun c _ hc _ _ => .ite (.raise rfl) (.writeRam hc (c.ram6000_lt _ _))
  case mmc3WPrgram | mmc5WPrgram6000 =>
    exact State.onRow_follows h fun c _ hc _ _ => .ite (.writeRam hc (c.ram6000_lt _ _)) (.raise rfl)
  case mmc5WPrg =>
    exact State.onRow_follows h fun c r hc _ _ =>
      .ite (.raise rfl) (.ite (.writeRam hc (windowIndex_lt _ r)) (.raise rfl))
  case mmc5WExram a d =>
    refine State.onRow_follows h fun c r hc hr ha => ?_
    obtain ⟨hlo, hhi⟩ := cpuAddr_none.1 ha
    have hindex := exRamIndex_lt hlo hhi
    exact .ite (.putRegs hc (.mmc5 hr (Memory.write_holds d hindex))) (.outputs rfl)
  case axromWReg =>
    exact State.onRow_follows h fun _ _ hc hx _ => .setMirror hc
      (.of_regs hx fun m hm => by cases m <;> cases hm; exact .same_irq rfl id rfl) nofun
  case m15WReg =>
    exact State.onRow_follows h fun _ _ hc hx _ => .setMirror hc
      (.of_regs hx fun m hm => by cases m <;> cases hm; exact .same_irq rfl id rfl) (byBit_ne_fourScreen _)
  case c71WMirror =>
    exact State.onRow_follows h fun c _ hc _ _ => .setMirror (m := c.mapper) hc (.refl _) nofun
  case mmc24WMirror | mmc3WMirror =>
    exact State.onRow_follows h fun c _ hc _ _ => .setMirror (m := c.mapper) hc (.refl _) (byBit_ne_fourScreen _)
  case mmc1WSerial =>
    exact State.onRow_follows h fun _ _ hc hr _ =>
      .ite (.putRegs hc (.mmc1 hr _)) (.ite (.putRegs hc (.mmc1 hr _)) (.mmc1Commit hc hr))
  all_goals cases hf

end

end Sys2Proof.Machine
end

section
/-! SUPPORT. Each such instruction does no more than `State.Follows` says. -/

namespace Sys2Proof.Machine

section
variable {i j : Instr}

/-- What one instruction may do, another may that moves the interrupt where the first does. -/
theorem Mapper.Follows.mono {m m' : Mapper} (h : m.Follows i m') (hr : j.mayRaiseIrq = false → i.mayRaiseIrq = false)
    (hd : j.mayDropIrq = false → i.mayDropIrq = false) : m.Follows j m' :=
  ⟨h.variant, h.inv, fun hj => h.raised (hr hj), fun hj => h.dropped (hd hj)⟩

theorem Cartridge.Follows.mono {p : Params} {c c' : Cartridge} (h : c.Follows p i c')
    (hr : j.mayRaiseIrq = false → i.mayRaiseIrq = false) (hd : j.mayDropIrq = false → i.mayDropIrq = false) :
    c.Follows p j c' := by
  cases h with
  | regs hm => exact .regs (hm.mono hr hd)
  | mirrored hm hmode => exact .mirrored (hm.mono hr hd) hmode
  | prgRam hm => exact .prgRam hm
  | chr hram hm => exact .chr hram hm

theorem State.Follows.mono {s t : State} (h : s.Follows i t) (hr : j.mayRaiseIrq = false → i.mayRaiseIrq = false)
    (hd : j.mayDropIrq = false → i.mayDropIrq = false) : s.Follows j t := by
  obtain ⟨hparams, hstore, hmirrors, hfault, hcart⟩ := h
  refine ⟨hparams, hstore, hmirrors, hfault, ?_⟩
  generalize s.cart = o, t.cart = o' at hcart ⊢
  cases hcart with
  | none => exact .none
  | some hc => exact .some (hc.mono hr hd)

/-- The disable row is selected by a write to an even address from 0xE000 up only (30 R89). -/
theorem mapperRow_mayDropIrq {p : Params} {v : Variant} {a : Addr} {d : Byte}
    (h : mapperRow p v .cpuWrite a d = some i) (hi : i.mayDropIrq = true) :
    withinParity 0xE000 0xFFFF 0 a = true := by
  have hf := mapperRow_format h
  cases i
  case mmc3WIrqdisable a' d' =>
    obtain ⟨rfl, rfl⟩ := dataRequest_inj (mapperRow_encode h)
    exact mapperRow_wf h
  case busWCart => cases hf
  all_goals cases hi

theorem mayRaiseIrq_of_format (hf : i.format ≠ .videoCycle) : i.mayRaiseIrq = false := by
  cases i
  case mmc3Vc => exact absurd rfl hf
  all_goals rfl

end

section
variable {i : Instr} {s t : State}

theorem exec_busWCart_follows {a : Addr} {d : Byte} (h : exec (.busWCart a d) s = .next t) :
    s.Follows (.busWCart a d) t := by
  obtain ⟨-, c, i, -, hrow, hacc⟩ := State.forward_next.1 h
  have hf : i.format = .cpuWrite := mapperRow_format hrow
  have hexec : exec i s = .next t := mapperAccess_exec s (.inr hf) ▸ hacc
  refine (exec_cpuWrite_follows hf hexec).mono (fun _ => mayRaiseIrq_of_format (hf ▸ nofun)) fun hno => ?_
  exact Bool.eq_false_iff.2 fun hi => Bool.eq_false_iff.1 hno (mapperRow_mayDropIrq hrow hi)

theorem exec_busWLocal_follows {a : Addr} {d : Byte} (h : exec (.busWLocal a d) s = .next t) : s.Follows i t := by
  obtain ⟨-, -, rfl⟩ := State.onLocal_next.1 h
  have hindex : resolve s.mirrors a.toNat < Config.storeSize := (resolve_le _ _).trans_lt a.isLt
  exact ⟨rfl, Memory.write_holds d hindex, id, id, cart_follows_refl ..⟩

theorem exec_mirror_follows {base : Addr} {regionSize extent : BitVec 17}
    (h : exec (.mirror base regionSize extent) s = .next t) : s.Follows i t := by
  obtain ⟨-, rfl⟩ := State.onHost_next.1 h
  split
  case isTrue => exact .of_frame rfl (cart_follows_refl ..)
  case isFalse hsize =>
    have hpos : 1 ≤ regionSize.toNat := Nat.one_le_iff_ne_zero.2 fun h => hsize (BitVec.eq_of_toNat_eq h)
    refine ⟨rfl, id, fun hold r hr => ?_, id, cart_follows_refl ..⟩
    obtain hr | hr := List.mem_append.1 hr
    · exact hold r hr
    · rw [List.mem_singleton.1 hr]
      exact ⟨Nat.le_of_lt_succ base.isLt, hpos⟩

theorem exec_saveload_follows {bytes : List Byte} (h : exec (.saveload bytes) s = .next t) : s.Follows i t := by
  obtain ⟨-, c, x, hc, hsel, rfl⟩ := State.onCart_next.1 h
  exact .stored hc rfl rfl (.prgRam fun _ _ => Memory.bare_holds (beq_iff_eq.2 (saveLoadSel_ok hsel)))

/-- What every instruction but `LOAD` and `UNLOAD` can do. -/
theorem exec_follows (hload : ∀ image, i ≠ .load image) (hunload : i ≠ .unload) (h : exec i s = .next t) :
    s.Follows i t := by
  cases hf : i.format
  case busRead => exact (exec_busRead_reads hf h).follows
  case cpuRead => exact (exec_cpuRead_reads hf h).follows
  case vidRead => exact (exec_vidRead_reads hf h).elim State.Reads.follows State.ReadsLatching.follows
  case cpuWrite => exact exec_cpuWrite_follows hf h
  case vidWrite => exact exec_vidWrite_follows hf h
  case videoCycle => exact exec_videoCycle_follows hf h
  all_goals cases i
  case busWrite.busWLocal => exact exec_busWLocal_follows h
  case busWrite.busWCart => exact exec_busWCart_follows h
  case configureMirror.mirror => exact exec_mirror_follows h
  case resetConfiguration.resetcfg =>
    obtain ⟨-, rfl⟩ := State.onHost_next.1 h
    exact ⟨rfl, id, fun _ _ hr => absurd hr List.not_mem_nil, id, cart_follows_refl ..⟩
  case wipe.wipe =>
    obtain ⟨-, rfl⟩ := State.onHost_next.1 h
    exact ⟨rfl, fun _ => Memory.bare_holds rfl, id, id, cart_follows_refl ..⟩
  case load.load image => exact absurd rfl (hload image)
  case unload.unload => exact absurd rfl hunload
  case saveLoad.saveload => exact exec_saveload_follows h
  case saveDump.savedump =>
    obtain ⟨-, c, x, -, -, rfl⟩ := State.onCart_next.1 h
    exact .outputs rfl
  case name.name =>
    rw [exec, execName] at h
    obtain ⟨-, c, x, -, -, rfl⟩ := State.onCart_next.1 h
    exact .outputs rfl
  all_goals cases hf

end

end Sys2Proof.Machine
end

section
/-! SUPPORT. What is fixed at load (00 R12), and the interrupt line (46 R249, R257). -/

namespace Sys2Proof.Machine

/-- A cartridge is left in place of the loaded one. -/
theorem State.Follows.cart_some {i : Instr} {s t : State} {c : Cartridge} (h : s.Follows i t)
    (hc : s.cart = some c) : ∃ c', t.cart = some c' ∧ c.Follows s.params i c' := by
  have hcart := h.cart
  rw [hc] at hcart
  generalize t.cart = o at hcart ⊢
  cases hcart with
  | some hf => exact ⟨_, rfl, hf⟩

theorem State.Follows.cart_none {i : Instr} {s t : State} (h : s.Follows i t) (hc : s.cart = none) :
    t.cart = none := by
  have hcart := h.cart
  rw [hc] at hcart
  generalize t.cart = o at hcart ⊢
  cases hcart with
  | none => rfl

@[simp] theorem Cartridge.mirrored_mapper (c : Cartridge) (mode : MirrorMode) (page : BitVec 1) :
    (c.mirrored mode page).mapper = c.mapper := by
  rw [Cartridge.mirrored]
  split <;> rfl

/-- The mapper left follows the one before. -/
theorem Cartridge.Follows.mapper {p : Params} {i : Instr} {c c' : Cartridge} (h : c.Follows p i c') :
    c.mapper.Follows i c'.mapper := by
  cases h with
  | regs hm => exact hm
  | mirrored hm _ => exact (Cartridge.mirrored_mapper ..).symm ▸ hm
  | prgRam _ => exact .refl _
  | chr _ _ => exact .refl _

/-- What is fixed at load for the life of the cartridge (00 R12, 10 R26 to R33). -/
def Cartridge.SameFixed (c c' : Cartridge) : Prop :=
  c'.variant = c.variant ∧ c'.prgBanks = c.prgBanks ∧ c'.chrBanks = c.chrBanks ∧ c'.prgRom = c.prgRom ∧
    c'.batteryPresent = c.batteryPresent ∧ c'.fourScreenLocked = c.fourScreenLocked ∧
    (c.chrIsRam = false → c'.chr = c.chr) ∧
    (c.fourScreenLocked = true → c'.mirrorMode = c.mirrorMode ∧ c'.singleScreenPage = c.singleScreenPage)

theorem Cartridge.Follows.sameFixed {p : Params} {i : Instr} {c c' : Cartridge} (h : c.Follows p i c') :
    c.SameFixed c' := by
  have hvariant : c'.variant = c.variant := h.mapper.variant
  cases h with
  | regs _ | prgRam _ => exact ⟨hvariant, rfl, rfl, rfl, rfl, rfl, fun _ => rfl, fun _ => ⟨rfl, rfl⟩⟩
  | chr hram _ =>
    exact ⟨hvariant, rfl, rfl, rfl, rfl, rfl, fun hrom => absurd hram (ne_true_of_eq_false hrom), fun _ => ⟨rfl, rfl⟩⟩
  | mirrored _ _ =>
    rw [Cartridge.mirrored] at hvariant ⊢
    split at hvariant
    case isTrue hl =>
      rw [if_pos hl]
      exact ⟨hvariant, rfl, rfl, rfl, rfl, rfl, fun _ => rfl, fun _ => ⟨rfl, rfl⟩⟩
    case isFalse hl =>
      rw [if_neg hl]
      exact ⟨hvariant, rfl, rfl, rfl, rfl, rfl, fun _ => rfl, fun hlock => absurd hlock hl⟩

/-- No instruction changes a parameter. -/
theorem exec_params {i : Instr} {s t : State} (h : exec i s = .next t) : t.params = s.params := by
  by_cases hload : ∃ image, i = .load image
  case pos =>
    obtain ⟨image, rfl⟩ := hload
    obtain ⟨-, rfl⟩ := State.onHost_next.1 h
    cases checkImage s.params image <;> rfl
  by_cases hunload : i = .unload
  case pos =>
    subst hunload
    obtain ⟨-, rfl⟩ := State.onHost_next.1 h
    rfl
  exact (exec_follows (not_exists.1 hload) hunload h).params

/-- Settles O59: every change that an instruction makes to the cartridge keeps what is fixed at load. -/
theorem fixedForLife : Obligations.FixedForLife := by
  refine ⟨fun i s t h => exec_params h, fun i s t c hload hunload h hc => ?_⟩
  obtain ⟨c', hc', hf⟩ := (exec_follows hload hunload h).cart_some hc
  exact ⟨c', hc', hf.sameFixed⟩

/-! ## The interrupt line -/

theorem State.Follows.irqLine_raised {i : Instr} {s t : State} (h : s.Follows i t) (hi : i.mayRaiseIrq = false)
    (ht : t.irqLine = true) : s.irqLine = true := by
  cases hc : s.cart with
  | none =>
    rw [State.irqLine_of_empty (h.cart_none hc)] at ht
    cases ht
  | some c =>
    obtain ⟨c', hc', hf⟩ := h.cart_some hc
    rw [State.irqLine_of_cart hc'] at ht
    rw [State.irqLine_of_cart hc]
    exact hf.mapper.raised hi ht

theorem State.Follows.irqLine_dropped {i : Instr} {s t : State} (h : s.Follows i t) (hi : i.mayDropIrq = false)
    (hs : s.irqLine = true) : t.irqLine = true := by
  cases hc : s.cart with
  | none =>
    rw [State.irqLine_of_empty hc] at hs
    cases hs
  | some c =>
    obtain ⟨c', hc', hf⟩ := h.cart_some hc
    rw [State.irqLine_of_cart hc] at hs
    rw [State.irqLine_of_cart hc']
    exact hf.mapper.dropped hi hs

theorem freshMapper_irqPending (v : Variant) (tag exTag : Nat) : (freshMapper v tag exTag).irqPending = false := by
  cases v <;> rfl

/-- A load does not raise the line: a new mapper holds no interrupt, and an error leaves the cartridge. -/
theorem exec_load_irqLine {image : List Byte} {s t : State} (h : exec (.load image) s = .next t)
    (hs : s.irqLine = false) : t.irqLine = false := by
  obtain ⟨-, rfl⟩ := State.onHost_next.1 h
  cases checkImage s.params image with
  | error e => exact hs
  | ok v => exact (State.irqLine_of_cart rfl).trans (freshMapper_irqPending v _ _)

theorem exec_unload_irqLine {s t : State} (h : exec .unload s = .next t) : t.irqLine = false := by
  obtain ⟨-, rfl⟩ := State.onHost_next.1 h
  rfl

theorem mayRaiseIrq_iff {i : Instr} : i.mayRaiseIrq = true ↔ ∃ sl cy bg sp, i = .mmc3Vc sl cy bg sp := by
  cases i <;> simp [Instr.mayRaiseIrq]

theorem mayDropIrq_cases {i : Instr} (h : i.mayDropIrq = true) :
    (∃ a d, i = .mmc3WIrqdisable a d) ∨ ∃ a d, i = .busWCart a d ∧ 0xE000 ≤ a.toNat ∧ a.toNat % 2 = 0 := by
  cases i
  case mmc3WIrqdisable a d => exact .inl ⟨a, d, rfl⟩
  case busWCart a d =>
    obtain ⟨hrange, heven⟩ := Bool.and_eq_true_iff.1 h
    exact .inr ⟨a, d, rfl, (within_iff.1 hrange).1, beq_iff_eq.1 heven⟩
  all_goals cases h

/-- Settles O60: the line follows the mapper's pending interrupt. -/
theorem irqLineRules : Obligations.IrqLineRules := by
  intro i s t h
  by_cases hload : ∃ image, i = .load image
  case pos =>
    obtain ⟨image, rfl⟩ := hload
    refine ⟨fun hs ht => ?_, fun _ _ => .inr (.inr (.inl ⟨image, rfl⟩))⟩
    rw [exec_load_irqLine h hs] at ht
    cases ht
  by_cases hunload : i = .unload
  case pos =>
    subst hunload
    refine ⟨fun _ ht => ?_, fun _ _ => .inr (.inr (.inr rfl))⟩
    rw [exec_unload_irqLine h] at ht
    cases ht
  have hf := exec_follows (not_exists.1 hload) hunload h
  constructor
  · intro hs ht
    by_contra hno
    have hi : i.mayRaiseIrq = false := Bool.eq_false_iff.2 (mt mayRaiseIrq_iff.1 hno)
    exact ne_true_of_eq_false hs (hf.irqLine_raised hi ht)
  · intro hs ht
    by_contra hno
    have hi : i.mayDropIrq = false := Bool.eq_false_iff.2 fun hi =>
      hno ((mayDropIrq_cases hi).imp_right .inl)
    exact ne_true_of_eq_false ht (hf.irqLine_dropped hi hs)

end Sys2Proof.Machine
end

section
/-! SUPPORT. The invariant of the block: what a cartridge must satisfy, that every change of `State.Follows` keeps it,
and that a load establishes it. -/

namespace Sys2Proof.Machine

/-- The invariant of a loaded cartridge, part by part. -/
structure Cartridge.Sound (p : Params) (c : Cartridge) : Prop where
  prgBanks_pos : 1 ≤ c.prgBanks
  prgBanks_le : c.prgBanks ≤ 255
  chrBanks_le : c.chrBanks ≤ 255
  prgRom : c.prgRom.holds c.prgLen = true
  prgRom_unwritten : c.prgRom.cells.isEmpty = true
  chr : c.chr.holds c.chrLen = true
  chrRom_unwritten : c.chrIsRam = true ∨ c.chr.cells.isEmpty = true
  prgRam : c.prgRam.holds (c.prgRamLen p) = true
  fourScreen : (c.mirrorMode == .fourScreen) = c.fourScreenLocked
  page : c.mirrorMode = .singleScreen ∨ c.singleScreenPage = 0
  mapper : c.mapper.inv = true

theorem Cartridge.inv_iff {p : Params} {c : Cartridge} : c.inv p = true ↔ c.Sound p := by
  simp only [Cartridge.inv, Bool.and_eq_true, Bool.or_eq_true, decide_eq_true_eq, beq_iff_eq, and_assoc]
  constructor
  · rintro ⟨h₁, h₂, h₃, h₄, h₅, h₆, h₇, h₈, h₉, h₁₀, h₁₁⟩
    exact ⟨h₁, h₂, h₃, h₄, h₅, h₆, h₇, h₈, h₉, h₁₀, h₁₁⟩
  · rintro ⟨h₁, h₂, h₃, h₄, h₅, h₆, h₇, h₈, h₉, h₁₀, h₁₁⟩
    exact ⟨h₁, h₂, h₃, h₄, h₅, h₆, h₇, h₈, h₉, h₁₀, h₁₁⟩

theorem Params.ok_prgRamSize {p : Params} (h : p.ok = true) (v : Variant) : 1 ≤ p.prgRamSize v :=
  of_decide_eq_true (List.all_eq_true.1 h _ (Vector.mem_toList_iff.2 (Vector.getElem_mem _)))

/-- Outside single-screen mode the page is 0 (42 R150). -/
theorem pageFor_eq_zero (mode : MirrorMode) (page : BitVec 1) :
    mode = .singleScreen ∨ pageFor mode page = 0 := by
  cases mode <;> simp [pageFor]

section
variable {p : Params} {i : Instr} {c c' : Cartridge}

theorem Cartridge.Sound.setMapper {m : Mapper} (h : c.Sound p) (hm : c.mapper.Follows i m) :
    (c.setMapper m).Sound p where
  __ := h
  prgRam := by
    have hlen : (c.setMapper m).prgRamLen p = c.prgRamLen p := congrArg p.prgRamSize hm.variant
    exact hlen ▸ h.prgRam
  mapper := hm.inv h.mapper

theorem Cartridge.Sound.mirrored (h : c.Sound p) {mode : MirrorMode} (hmode : mode ≠ .fourScreen) (page : BitVec 1) :
    (c.mirrored mode (pageFor mode page)).Sound p := by
  rw [Cartridge.mirrored]
  split
  case isTrue => exact h
  case isFalse hlock =>
    exact { h with
      fourScreen := (beq_false_of_ne hmode).trans (Bool.eq_false_iff.2 hlock).symm
      page := pageFor_eq_zero mode page }

theorem Cartridge.Follows.sound (h : c.Follows p i c') (hlen : 1 ≤ c.prgRamLen p) (hc : c.Sound p) : c'.Sound p := by
  cases h with
  | regs hm => exact hc.setMapper hm
  | mirrored hm hmode => exact (hc.setMapper hm).mirrored hmode _
  | prgRam hm => exact { hc with prgRam := hm hlen hc.prgRam }
  | chr hram hm => exact { hc with chr := hm hc.chr, chrRom_unwritten := .inl hram }

end

theorem State.Follows.inv {i : Instr} {s t : State} (h : s.Follows i t) (hs : s.Inv) : t.Inv := by
  obtain ⟨hok, hstore, hmirrors, hcart, hfault⟩ := hs
  rw [State.Inv, h.params]
  refine ⟨hok, h.store hstore, h.mirrors hmirrors, fun c' hc' => ?_, h.fault hfault⟩
  cases hc : s.cart with
  | none => cases (h.cart_none hc).symm.trans hc'
  | some c =>
    obtain ⟨c₁, hc₁, hf⟩ := h.cart_some hc
    cases hc₁.symm.trans hc'
    have hsound := Cartridge.inv_iff.1 (hcart c hc)
    exact Cartridge.inv_iff.2 (hf.sound (Params.ok_prgRamSize hok _) hsound)

/-! ## A load -/

/-- The header locks the mirroring exactly where it gives four-screen (30 R77). -/
theorem imageMirrorMode_fourScreen (image : List Byte) :
    (imageMirrorMode image == .fourScreen) = (headerByte image 6).getLsbD 3 := by
  rw [imageMirrorMode]
  cases (headerByte image 6).getLsbD 3 <;> cases (headerByte image 6).getLsbD 0 <;> rfl

theorem freshMapper_inv (v : Variant) (tag exTag : Nat) : (freshMapper v tag exTag).inv = true := by
  cases v
  case mmc5 => exact Memory.bare_holds rfl
  all_goals rfl

theorem imageCartridge_sound {p : Params} {image : List Byte} {v : Variant} (h : checkImage p image = .ok v)
    (n : Nat) : (imageCartridge v image n).Sound p where
  prgBanks_pos := Nat.one_le_iff_ne_zero.2 (checkImage_ok h).2.2.1
  prgBanks_le := Nat.le_of_lt_succ (BitVec.isLt _)
  chrBanks_le := Nat.le_of_lt_succ (BitVec.isLt _)
  prgRom := imagePrgRom_holds h
  prgRom_unwritten := rfl
  chr := imageChr_holds h
  chrRom_unwritten := .inr (by
    change (imageChr image).cells.isEmpty = true
    rw [imageChr]
    split <;> rfl)
  prgRam := Memory.bare_holds rfl
  fourScreen := imageMirrorMode_fourScreen image
  page := .inr rfl
  mapper := freshMapper_inv v _ _

/-- The errors of the checks are recorded under no policy (60 R264). -/
theorem checkImage_error {p : Params} {image : List Byte} {e : Error} (h : checkImage p image = .error e)
    (policy : ErrorPolicy) : errorRecorded policy e = false := by
  unfold checkImage at h
  split_ifs at h
  case neg =>
    split at h <;> cases h
    rfl
  all_goals cases h; rfl

/-- What an instruction leaves that changes nothing but the cartridge and the outputs. -/
theorem State.Inv.of_frame {s t : State} (hs : s.Inv)
    (h : t = { s with cart := t.cart, result := t.result, events := t.events, draws := t.draws })
    (hcart : ∀ c, t.cart = some c → c.inv s.params = true) : t.Inv := by
  have hparams : t.params = s.params := by rw [h]
  have hstore : t.store = s.store := by rw [h]
  have hmirrors : t.mirrors = s.mirrors := by rw [h]
  have hfault : t.fault = s.fault := by rw [h]
  obtain ⟨hok, hholds, hadmitted, -, hrecorded⟩ := hs
  rw [State.Inv, hparams, hstore, hmirrors, hfault]
  exact ⟨hok, hholds, hadmitted, hcart, hrecorded⟩

theorem exec_load_inv {image : List Byte} {s t : State} (h : exec (.load image) s = .next t) (hs : s.Inv) : t.Inv := by
  obtain ⟨-, rfl⟩ := State.onHost_next.1 h
  cases hcheck : checkImage s.params image with
  | error e =>
    have ⟨_, _, _, hcart, _⟩ := hs
    exact hs.of_frame (State.raise_unrecorded (checkImage_error hcheck _)) hcart
  | ok v =>
    refine hs.of_frame rfl fun c hc => ?_
    cases hc
    exact Cartridge.inv_iff.2 (imageCartridge_sound hcheck _)

theorem exec_unload_inv {s t : State} (h : exec .unload s = .next t) (hs : s.Inv) : t.Inv := by
  obtain ⟨-, rfl⟩ := State.onHost_next.1 h
  exact hs.of_frame rfl fun c hc => by cases hc

theorem exec_inv {i : Instr} {s t : State} (h : exec i s = .next t) (hs : s.Inv) : t.Inv := by
  by_cases hload : ∃ image, i = .load image
  case pos =>
    obtain ⟨image, rfl⟩ := hload
    exact exec_load_inv h hs
  by_cases hunload : i = .unload
  case pos =>
    subst hunload
    exact exec_unload_inv h hs
  exact (exec_follows (not_exists.1 hload) hunload h).inv hs

/-- Settles O11: a load makes a sound cartridge, an unload none, and what every other instruction can do keeps the
invariant. -/
theorem stepKeepsInv : Obligations.StepKeepsInv := by
  intro s t hs h
  obtain ⟨-, rfl⟩ | ⟨r, rest, i, -, -, hexec⟩ := step_next.1 h
  · exact hs
  · exact exec_inv hexec hs

/-- Settles O10: at power-on there is no cartridge, no region and no fault, and the store holds no cell. -/
theorem resetInv : Obligations.ResetInv := by
  have hpowerOn (p : Params) (hp : p.ok = true) : (State.powerOn p).Inv :=
    ⟨hp, Memory.bare_holds rfl, fun r hr => absurd hr List.not_mem_nil, fun c hc => (by cases hc), rfl⟩
  exact ⟨hpowerOn, hpowerOn _ rfl⟩

end Sys2Proof.Machine
end
